-- ==== Sys2Proof/Word.lean ====
section
/-! DEFINITION. The widths of `00_scope.md` rule R7: the words that the manual treats as bits. -/

namespace Sys2Proof

/-- A command word, a response word or a status register read (30 R70, R76; 10 R27). -/
abbrev Word := BitVec 32

/-- One byte of the wire or of a frame. -/
abbrev Byte := BitVec 8

/-- One intensity, 0 to 65535, transported raw (00 R5 `INTENSITY_BITS`, 10 R23). -/
abbrev Intensity := BitVec 16

end Sys2Proof
end

