-- ==== Sys2Proof/Syntax.lean ====
section
/-! DEFINITION. The seven commands of `30_encoding.md` rule R73, one constructor per row of `spec/opcode_table.json`. -/

namespace Sys2Proof

/-- A command with its operands as 30 R72 assembles them. Coordinates and the chip index are plain numbers (the block compares
them with a range and never computes on them); an intensity is a 16-bit pattern "taken as is". -/
inductive Instr where
  /-- `RESOLVE x, y` (40 R107) -/
  | resolve (x y : Nat)
  /-- `SET_PIXEL x, y, intensity` (41 R121) -/
  | setPixel (x y : Nat) (intensity : Intensity)
  /-- `SET_ALL intensity` (41 R122) -/
  | setAll (intensity : Intensity)
  /-- `SET_CHIP_GROUP chipIndex, intensity` (41 R123) -/
  | setChipGroup (chipIndex : Nat) (intensity : Intensity)
  /-- `SERIALIZE` (42 R143) -/
  | serialize
  /-- `SEND` (43 R171) -/
  | send
  /-- `CLOSE` (43 R180) -/
  | close
deriving DecidableEq, Repr

end Sys2Proof
end

