-- ==== Sys2Proof/WellFormed.lean ====
section
/-! DEFINITION. Which commands have an encoding: every operand fits its field (`30_encoding.md` rules R71, R81). -/

namespace Sys2Proof

/-- "It refuses an operand that does not fit its field (x > 15, y > 31, chipIndex > 7, intensity > 65535)" (30 R81); the
intensity's bound is in its type. An operand that fits its field and is out of range for the block is well-formed. -/
def Instr.wf : Instr → Bool
  | .resolve x y => decide (x < 16) && decide (y < 32)
  | .setPixel x y _ => decide (x < 16) && decide (y < 32)
  | .setAll _ => true
  | .setChipGroup chipIndex _ => decide (chipIndex < 8)
  | .serialize => true
  | .send => true
  | .close => true

end Sys2Proof
end

