-- ==== Sys2Proof/Decode.lean ====
section
/-! DEFINITION. Decoding and encoding of the 32-bit command word (`30_encoding.md` rules R71 to R75, R79, R80). -/

namespace Sys2Proof

/-! ### The fields of rule R71, zero-extended as rule R72 says -/

/-- `OP`, bits [31:28]. -/
def opField (w : Word) : Nat := (w.extractLsb' 28 4).toNat

/-- `X`, bits [27:24]. -/
def xField (w : Word) : Nat := (w.extractLsb' 24 4).toNat

/-- `Y`, bits [23:19]. -/
def yField (w : Word) : Nat := (w.extractLsb' 19 5).toNat

/-- `CHIP`, bits [18:16]. -/
def chipField (w : Word) : Nat := (w.extractLsb' 16 3).toNat

/-- `I`, bits [15:0]. -/
def intensityField (w : Word) : Intensity := w.extractLsb' 0 16

/-! ### The opcode table -/

/-- One row of `spec/opcode_table.json`: the bits that are fixed (`mask`) and their values (`value`, the table's `match`). -/
structure OpcodeRow where
  mnemonic : String
  value    : Word
  mask     : Word
deriving DecidableEq, Repr

/-- The seven rows of `spec/opcode_table.json`, copied from it. -/
def opcodeTable : List OpcodeRow :=
  [ ⟨"RESOLVE",        0x10000000#32, 0xF007FFFF#32⟩,
    ⟨"SET_PIXEL",      0x20000000#32, 0xF0070000#32⟩,
    ⟨"SET_ALL",        0x30000000#32, 0xFFFF0000#32⟩,
    ⟨"SET_CHIP_GROUP", 0x40000000#32, 0xFFF80000#32⟩,
    ⟨"SERIALIZE",      0x50000000#32, 0xFFFFFFFF#32⟩,
    ⟨"SEND",           0x60000000#32, 0xFFFFFFFF#32⟩,
    ⟨"CLOSE",          0x70000000#32, 0xFFFFFFFF#32⟩ ]

/-- `MBZ_MASK(op)` of rule R79; no value where the opcode is reserved (rule R74). -/
def mbzMask : Nat → Option Word
  | 1 => some 0x0007FFFF#32
  | 2 => some 0x00070000#32
  | 3 => some 0x0FFF0000#32
  | 4 => some 0x0FF80000#32
  | 5 => some 0x0FFFFFFF#32
  | 6 => some 0x0FFFFFFF#32
  | 7 => some 0x0FFFFFFF#32
  | _ => none

/-! ### Decoding -/

/-- Why a word is no command; the block answers both with `ILLEGAL_COMMAND` (rules R74, R75). -/
inductive DecodeError where
  /-- a reserved OP value, 0x0 or 0x8 to 0xF (rule R74) -/
  | reservedOpcode
  /-- a legal OP with a nonzero must-be-zero field (rule R75) -/
  | mustBeZero
deriving DecidableEq, Repr

/-- The command that the operand fields of `w` name under a legal opcode (rule R73); no value for a reserved one. -/
def commandOf (w : Word) : Option Instr :=
  match opField w with
  | 1 => some (.resolve (xField w) (yField w))
  | 2 => some (.setPixel (xField w) (yField w) (intensityField w))
  | 3 => some (.setAll (intensityField w))
  | 4 => some (.setChipGroup (chipField w) (intensityField w))
  | 5 => some .serialize
  | 6 => some .send
  | 7 => some .close
  | _ => none

/-- The decode of rule R79, in its order: the reserved opcodes, then the must-be-zero fields. It needs nothing but the word
(rule R80). -/
def decode (w : Word) : Except DecodeError Instr :=
  match mbzMask (opField w), commandOf w with
  | some mask, some i => if w &&& mask = 0#32 then .ok i else .error .mustBeZero
  | _, _ => .error .reservedOpcode

/-- Decoding an instruction given as the opcode table numbers its bits: the whole command is one 32-bit word (rule R80), so
bit 0 of `w` is bit 0 of the command word; bits above `nbits` are 0. -/
def decodeTableWord (nbits w : Nat) : Option Instr :=
  match decode (BitVec.ofNat 32 (w % 2 ^ nbits)) with
  | .ok i => some i
  | .error _ => none

/-! ### Encoding -/

/-- The one format of rule R71. -/
def packCommand (op x y chip : Nat) (intensity : Intensity) : Word :=
  BitVec.ofNat 4 op ++ (BitVec.ofNat 4 x ++ (BitVec.ofNat 5 y ++ (BitVec.ofNat 3 chip ++ intensity)))

/-- "The assembler puts each operand into its field of rule R71 and sets every other field to 0" (rules R73, R81). -/
def encode : Instr → Word
  | .resolve x y => packCommand 1 x y 0 0#16
  | .setPixel x y intensity => packCommand 2 x y 0 intensity
  | .setAll intensity => packCommand 3 0 0 0 intensity
  | .setChipGroup chipIndex intensity => packCommand 4 0 0 chipIndex intensity
  | .serialize => packCommand 5 0 0 0 0#16
  | .send => packCommand 6 0 0 0 0#16
  | .close => packCommand 7 0 0 0 0#16

/-- The row of the opcode table that a command belongs to. -/
def opcodeRowOf : Instr → OpcodeRow
  | .resolve _ _ => ⟨"RESOLVE", 0x10000000#32, 0xF007FFFF#32⟩
  | .setPixel _ _ _ => ⟨"SET_PIXEL", 0x20000000#32, 0xF0070000#32⟩
  | .setAll _ => ⟨"SET_ALL", 0x30000000#32, 0xFFFF0000#32⟩
  | .setChipGroup _ _ => ⟨"SET_CHIP_GROUP", 0x40000000#32, 0xFFF80000#32⟩
  | .serialize => ⟨"SERIALIZE", 0x50000000#32, 0xFFFFFFFF#32⟩
  | .send => ⟨"SEND", 0x60000000#32, 0xFFFFFFFF#32⟩
  | .close => ⟨"CLOSE", 0x70000000#32, 0xFFFFFFFF#32⟩

end Sys2Proof
end

