-- ==== Sys2Proof/Config.lean ====
section
/-! DEFINITION. What is fixed for a whole run (`00_scope.md` rule R6, `10_state.md` rule R38), and the free values: the
answers of the Transport that no input of the state fixes (`43_transport_handshake.md` rule R161). -/

namespace Sys2Proof

/-- "one addressable (chip, channel, colorLane) unit of hardware state" (00 R5, glossary). The ranges are part of the type:
`chip ∈ 0..2`, `channel ∈ 0..15`, `colorLane ∈ 0..2`. -/
structure Slot where
  chip    : Fin 3
  channel : Fin 16
  color   : Fin 3
deriving DecidableEq, Repr

/-- The Address Table, "three parallel fixed lookup tables (chip table, channel table, color table) indexed by `(x, y)`"
(10 R24, 40 R100). The entry of cell `(x, y)` stands at number `9·y + x`, a storage order that nothing can observe (91 N10).
Every value of this type is well-formed in the sense of 40 R101 (log 3). -/
structure AddressTable where
  chipTbl    : Vector (Fin 3) 144
  channelTbl : Vector (Fin 16) 144
  colorTbl   : Vector (Fin 3) 144
deriving DecidableEq, Repr

/-- `INIT_ORDER` (00 R6): whether the table is validated before or after the port is opened. -/
inductive InitOrder where
  | validateFirst
  | openFirst
deriving DecidableEq, Repr

/-- `MAX_RECONNECT_ATTEMPTS` (00 R6): `none`, the unbounded baseline, or a natural number that is at least 2. -/
abbrev ReconnectBound := Option { n : Nat // 2 ≤ n }

/-- The configuration parameters of 00 R6. They are "fixed for the whole run from one reset to the next, and no command
changes them". -/
structure Config where
  /-- `ADDRESS_TABLE` -/
  table         : AddressTable
  /-- `PORT`, a platform-specific string, passed to the Transport unchanged -/
  port          : String
  /-- `BAUD`, passed to the Transport unchanged -/
  baud          : Nat
  /-- `RESET_ON_START` -/
  resetOnStart  : Bool
  /-- `MAX_RECONNECT_ATTEMPTS` -/
  maxReconnect  : ReconnectBound
  /-- `FRAME_CAPACITY`, in bytes -/
  frameCapacity : Nat
  /-- `INIT_ORDER` -/
  initOrder     : InitOrder
deriving DecidableEq, Repr

/-- The answer to `TxOpen` or `TxWrite` (43 R160). -/
inductive TxResult where
  | ok
  | error
deriving DecidableEq, Repr, Inhabited

/-- The answer to `TxRead(ms)` (43 R160). -/
inductive ReadAnswer where
  | byte (b : Byte)
  | timeout
  | error
deriving DecidableEq, Repr, Inhabited

/-- FREE VALUE (log 4). The Transport's answer to its request number `n`, where that is a `TxOpen` and the state's list of
open answers is exhausted: "Each request's answer may be any value of its answer type" (43 R161, 93 I3). -/
opaque Config.freeOpenAnswer : Nat → TxResult

/-- FREE VALUE (log 4). The Transport's answer to its request number `n`, where that is a `TxWrite` and the state's list of
write answers is exhausted (43 R161, 93 I3). -/
opaque Config.freeWriteAnswer : Nat → TxResult

/-- FREE VALUE (log 4). The Transport's answer to its request number `n`, where that is a `TxRead` and the state's list of
read answers is exhausted (43 R161, 93 I3, I8). -/
opaque Config.freeReadAnswer : Nat → ReadAnswer

end Sys2Proof
end

