-- ==== Sys2Proof/Machine/Operands.lean ====
section
/-! DEFINITION. The operand forms of the commands: a slot by its index (`20_memory.md` rules R52, R53), a grid cell through
the Address Table (`20_memory.md` R51, `40_address_table.md` R100), the bytes of an intensity (`00_scope.md` R9). -/

namespace Sys2Proof

/-- `slotIndex(chip, channel, colorLane) = chip·48 + channel·3 + colorLane` (20 R52). -/
def Slot.index (k : Slot) : Fin 144 :=
  ⟨k.chip.val * 48 + k.channel.val * 3 + k.color.val, by omega⟩

/-- The inverse: slot index `i` is the slot `(i / 48, (i mod 48) / 3, i mod 3)` (20 R53). -/
def Slot.ofIndex (i : Fin 144) : Slot :=
  { chip := ⟨i.val / 48, by omega⟩, channel := ⟨i.val % 48 / 3, by omega⟩, color := ⟨i.val % 3, by omega⟩ }

/-- Where the tables keep the entry of cell `(x, y)` (any storage order would do, 91 N10). -/
def cellNumber (x : Fin 9) (y : Fin 16) : Fin 144 := ⟨9 * y.val + x.val, by omega⟩

/-- `TBL(x, y) = (CHIP_TBL(x, y), CHANNEL_TBL(x, y), COLOR_TBL(x, y))` (40 R100). -/
def AddressTable.lookup (t : AddressTable) (x : Fin 9) (y : Fin 16) : Slot :=
  { chip := t.chipTbl[cellNumber x y]
    channel := t.channelTbl[cellNumber x y]
    color := t.colorTbl[cellNumber x y] }

/-- The table whose cell number `n` (`n = 9·y + x`) holds `f n`. -/
def AddressTable.ofNumbered (f : Fin 144 → Slot) : AddressTable :=
  { chipTbl := Vector.ofFn fun n => (f n).chip
    channelTbl := Vector.ofFn fun n => (f n).channel
    colorTbl := Vector.ofFn fun n => (f n).color }

/-- The table `t` with the entry of one cell changed: another configuration, never a step of the block (10 R24). -/
def AddressTable.withCell (t : AddressTable) (x : Fin 9) (y : Fin 16) (k : Slot) : AddressTable :=
  { chipTbl := t.chipTbl.set (cellNumber x y) k.chip
    channelTbl := t.channelTbl.set (cellNumber x y) k.channel
    colorTbl := t.colorTbl.set (cellNumber x y) k.color }

/-- The range check that every command with a coordinate makes before it reads the table, and the read: no slot where
`x ≥ 9` or `y ≥ 16` (20 R51). -/
def AddressTable.resolve (t : AddressTable) (x y : Nat) : Option Slot :=
  if hx : x < 9 then
    if hy : y < 16 then some (t.lookup ⟨x, hx⟩ ⟨y, hy⟩) else none
  else none

/-- `hi8(v) = v[15:8]` (00 R9). -/
def hi8 (v : Intensity) : Byte := v.extractLsb' 8 8

/-- `lo8(v) = v[7:0]` (00 R9). -/
def lo8 (v : Intensity) : Byte := v.extractLsb' 0 8

end Sys2Proof
end

