-- ==== Sys2Proof/Machine/Params.lean ====
section
/-! DEFINITION. The fixed parameters of `00_scope.md` rule R5, the example tables of `40_address_table.md` section 4, and the
configuration that `95_test_vectors.md` uses. -/

namespace Sys2Proof

/-- `SYNC` = `'G','O'` (00 R5; the codes are ASCII, 93 I22; log 13). -/
def syncBytes : List Byte := [0x47#8, 0x4F#8]

/-- `RESET_CMD` = `'R','T'` (00 R5, 43 R166; 93 I23; log 13). -/
def resetCommand : List Byte := [0x52#8, 0x54#8]

/-- First byte of `ACK_BYTES`, `'D'` (00 R5, 43 R174; 93 I24; log 13). -/
def ackByte0 : Byte := 0x44#8

/-- Second byte of `ACK_BYTES`, `'N'` (00 R5, 43 R174; 93 I24; log 13). -/
def ackByte1 : Byte := 0x4E#8

/-- `FRAME_LEN` = 290 = 2 + 2·SLOTS (00 R5). -/
def frameLen : Nat := 2 + 2 * 144

/-- `ACK_T0_MS` (00 R5, 60 R212). -/
def ackTimeout0 : Nat := 90

/-- `ACK_T1_MS` (00 R5, 60 R212). -/
def ackTimeout1 : Nat := 10

/-- `K_EXPECTED` = CHIPS · COLORS · (COLORS + CHIPS − 2) / 2 (40 R103). Its value is 18; the source's literal 12 loses
(90 C1). -/
def kExpected : Nat := 3 * 3 * (3 + 3 - 2) / 2

/-- `T_EX` (40 section 4): cell `(x, y)` maps to the slot with index `9·y + x`. It is not the shipped table (91 N1). -/
def exampleTable : AddressTable := AddressTable.ofNumbered Slot.ofIndex

/-- `T_BAD` (40 section 4): `T_EX` with cell (0, 0) changed from (0, 0, 0) to (1, 0, 0). -/
def badTable : AddressTable := exampleTable.withCell 0 0 ⟨1, 0, 0⟩

/-- `T_NB` (95 L2.2): `T_EX` with cell (1, 0) changed from (0, 0, 1) to (1, 0, 0). -/
def nonBijectiveTable : AddressTable := exampleTable.withCell 1 0 ⟨1, 0, 0⟩

/-- The configuration that 95_test_vectors.md takes "unless a vector says otherwise", with the defaults of 00 R6 for `BAUD` and
`INIT_ORDER`. It stands in `State.reset` only; DESIGN CHOICE, log 2. -/
def Config.ofTestVectors : Config :=
  { table := exampleTable
    port := ""
    baud := 9600
    resetOnStart := false
    maxReconnect := none
    frameCapacity := 300
    initOrder := .validateFirst }

end Sys2Proof
end

