-- ==== Sys2Proof/Machine/State.lean ====
section
/-! DEFINITION. The state of the block (`10_state.md` rules R20 to R37), as plain data, and the state after reset
(`70_reset_and_hazards.md` rule R231). -/

namespace Sys2Proof.Machine

/-- The values of `STATE` (10 R22). The reserved values 10 to 15 are never held (93 I17), so they are no constructors. -/
inductive HState where
  | disconnected
  | validating
  | opening
  | resetting
  | reconnecting
  | connected
  | sending
  | awaitingAck
  | failed
  | closed
deriving DecidableEq, Repr

/-- The values of `FAULT` (60 R202); 7 to 15 are never raised. -/
inductive FaultCode where
  | none
  | portOpenFailed
  | rebootFailed
  | checksumMismatch
  | bufferOverflow
  | resetWriteFailed
  | reconnectExhausted
deriving DecidableEq, Repr

/-- The values of `LAST_STATUS` and of a response's STATUS field (30 R77). `none` (15) stands only in `LAST_STATUS`, from
reset until the first response. -/
inductive Status where
  | ok
  | outOfRange
  | invalidChip
  | writeError
  | illegalCommand
  | notReady
  | faulted
  | none
deriving DecidableEq, Repr

/-- The acknowledgment classes (30 R78). -/
inductive AckClass where
  | none
  | ok
  | timeout
  | readError
  | mismatch
deriving DecidableEq, Repr

/-- The values of `CHK_STATUS` (10 R32). -/
inductive ChkStatus where
  | notRun
  | passed
  | failed
deriving DecidableEq, Repr

/-- The records of the log port with their payloads (60 R210). -/
inductive LogEvent where
  | checksumMismatch (expected : BitVec 16) (sums : Vector (BitVec 16) 16)
  | portOpenFailed
  | resetWriteFailed
  | rebootFailed (attempts : BitVec 32)
  | reconnectExhausted (attempts : BitVec 32)
  | bufferOverflow (frameLength capacity : Nat)
  | writeError
  | ackTimeout (raw0 raw1 : BitVec 10)
  | ackReadError (raw0 raw1 : BitVec 10)
  | ackMismatch (raw0 raw1 : BitVec 10)
deriving DecidableEq, Repr

/-- A request that the Transport answers (43 R160), while its answer is still to come. -/
inductive TxRequest where
  | txOpen (port : String) (baud : Nat)
  | txWrite (bytes : List Byte)
  | txRead (ms : Nat)
deriving DecidableEq, Repr

/-- What happens on the Transport port: one request of the block with the answer the Transport gave (43 R160), or a reset, with the
request that it left without an answer, if one was outstanding (70 R232; log 23). -/
inductive TxEvent where
  | openReq (port : String) (baud : Nat) (answer : TxResult)
  | writeReq (bytes : List Byte) (answer : TxResult)
  | readReq (ms : Nat) (answer : ReadAnswer)
  | closeReq
  | rst (outstanding : Option TxRequest)
deriving DecidableEq, Repr

/-- `rst` in one step (70 R230: "A reset may be asserted in any state"): low; asserted before the step makes a Transport request; or
asserted while the request of this step is outstanding, which in a step that makes none is the same as before it (log 5, 23). -/
inductive RstSample where
  | low
  | asserted
  | duringRequest
deriving DecidableEq, Repr

/-- The reasons for which the machine stops with a fault: there are none. A fatal condition of the block is a NEXT state (60
R203: `STATE` = `FAILED`), and the spec lets the block stop nowhere, so this closed inductive has no constructor, nobody
raises it, and a step can never answer with it. Safe (log 20). -/
inductive Fault : Type
deriving DecidableEq, Repr

/-- The reasons for which a step is refused. -/
inductive Refusal where
  /-- raised by an arm of `exec` whose instruction has no meaning yet; no arm raises it. Safe. -/
  | notModelled (mnemonic : String)
deriving DecidableEq, Repr

/-- The state of the block. Fields in the order of INVENTORY.md. -/
structure State where
  /-- the configuration (00 R6, 10 R38), written by no step and by no reset (log 1) -/
  cfg : Config
  /-- the Pixel Buffer `buf` (10 R23) -/
  buf : Vector Intensity 144
  /-- `STATE` (10 R22) -/
  state : HState
  /-- `HANDLE_OPEN` (10 R25) -/
  handleOpen : Bool
  /-- `RECONNECT_ATTEMPTS` (10 R26) -/
  reconnectAttempts : BitVec 32
  /-- `FAULT` (10 R28) -/
  fault : FaultCode
  /-- `LAST_STATUS` (10 R29) -/
  lastStatus : Status
  /-- `LAST_ACK` (10 R30) -/
  lastAck : AckClass
  /-- `ACK_RAW0` (10 R31) -/
  ackRaw0 : BitVec 10
  /-- `ACK_RAW1` (10 R31) -/
  ackRaw1 : BitVec 10
  /-- `CHK_STATUS` (10 R32) -/
  chkStatus : ChkStatus
  /-- `CHK_SUM[0..15]` (10 R34) -/
  chkSum : Vector (BitVec 16) 16
  /-- the command in progress, from acceptance to response (10 R37) -/
  cmd : Option Instr
  /-- the frame snapshot of a SEND, taken in `SENDING` and dropped at the response (10 R37) -/
  snapshot : Option (List Byte)
  /-- the first acknowledgment read result, from the first read to the classification (10 R37) -/
  ack0 : Option ReadAnswer
  /-- the response port: `some w` is `rsp_valid` = 1 with `rsp_word` = `w`, and it lasts "for that one completion" (30 R70) -/
  rsp : Option Word
  /-- the records put out on `frame_out`, oldest first (42 R145) -/
  frameOut : List (List Byte)
  /-- the records put out on `log_out`, oldest first (60 R210) -/
  logOut : List LogEvent
  /-- what happened on the Transport port, oldest first: the requests with their answers (43 R160), and the resets (70 R232) -/
  txTrace : List TxEvent
  /-- the `rst` input, one sample for each step; past its end the input is low (70 R230, log 5) -/
  rstIn : List RstSample
  /-- the commands the host presents, in order: the first is on `cmd_word` with `cmd_valid` = 1 until it is accepted
  (30 R70, 70 R235); `cmd_valid` is 0 when there is none (log 5) -/
  cmdIn : List Word
  /-- the Transport's next answers to `TxOpen` (43 R161, log 4) -/
  openIn : List TxResult
  /-- the Transport's next answers to `TxWrite` (43 R161, log 4) -/
  writeIn : List TxResult
  /-- the Transport's next answers to `TxRead` (43 R161, log 4) -/
  readIn : List ReadAnswer
  /-- THE MODEL'S OWN: the number of the next Transport request that is answered, the argument of the free values (log 4, 21) -/
  oracleIx : Nat
deriving DecidableEq, Repr

/-- The state after power-on reset of a block with configuration `c`: every value is the one of 70 R231, the hidden state is
empty (log 19), and no input has been given yet (log 22). -/
def State.resetWith (c : Config) : State :=
  { cfg := c
    buf := Vector.replicate 144 0#16
    state := .disconnected
    handleOpen := false
    reconnectAttempts := 0#32
    fault := .none
    lastStatus := .none
    lastAck := .none
    ackRaw0 := 0#10
    ackRaw1 := 0#10
    chkStatus := .notRun
    chkSum := Vector.replicate 16 0#16
    cmd := none
    snapshot := none
    ack0 := none
    rsp := none
    frameOut := []
    logOut := []
    txTrace := []
    rstIn := []
    cmdIn := []
    openIn := []
    writeIn := []
    readIn := []
    oracleIx := 0 }

/-- The machine right after reset, in the configuration of 95_test_vectors.md (log 2). Statements about reset are made of
`State.resetWith c` for every `c`. -/
def State.reset : State := State.resetWith Config.ofTestVectors

end Sys2Proof.Machine
end

