-- ==== Sys2Proof/Machine/Flags.lean ====
section
/-! DEFINITION. The outcome fields, "the nearest thing to flags" (`10_state.md` rule R35): their codes, how an acknowledgment is
recorded and classified, and how a response word is packed. -/

namespace Sys2Proof.Machine

/-! ### Codes -/

/-- The 4-bit code of `STATE` (10 R22). -/
def HState.code : HState → BitVec 4
  | .disconnected => 0#4
  | .validating => 1#4
  | .opening => 2#4
  | .resetting => 3#4
  | .reconnecting => 4#4
  | .connected => 5#4
  | .sending => 6#4
  | .awaitingAck => 7#4
  | .failed => 8#4
  | .closed => 9#4

/-- The 4-bit code of `FAULT` (60 R202). -/
def FaultCode.code : FaultCode → BitVec 4
  | .none => 0#4
  | .portOpenFailed => 1#4
  | .rebootFailed => 2#4
  | .checksumMismatch => 3#4
  | .bufferOverflow => 4#4
  | .resetWriteFailed => 5#4
  | .reconnectExhausted => 6#4

/-- The 4-bit status code (30 R77). -/
def Status.code : Status → BitVec 4
  | .ok => 0#4
  | .outOfRange => 1#4
  | .invalidChip => 2#4
  | .writeError => 3#4
  | .illegalCommand => 4#4
  | .notReady => 5#4
  | .faulted => 6#4
  | .none => 15#4

/-- The 4-bit acknowledgment class code (30 R78). -/
def AckClass.code : AckClass → BitVec 4
  | .none => 0#4
  | .ok => 1#4
  | .timeout => 2#4
  | .readError => 3#4
  | .mismatch => 4#4

/-- The 2-bit code of `CHK_STATUS` (10 R32). -/
def ChkStatus.code : ChkStatus → BitVec 2
  | .notRun => 0#2
  | .passed => 1#2
  | .failed => 2#2

/-- The record code of a log event (60 R210). -/
def LogEvent.code : LogEvent → BitVec 8
  | .checksumMismatch _ _ => 0x01#8
  | .portOpenFailed => 0x02#8
  | .resetWriteFailed => 0x03#8
  | .rebootFailed _ => 0x04#8
  | .reconnectExhausted _ => 0x05#8
  | .bufferOverflow _ _ => 0x06#8
  | .writeError => 0x07#8
  | .ackTimeout _ _ => 0x08#8
  | .ackReadError _ _ => 0x09#8
  | .ackMismatch _ _ => 0x0A#8

/-! ### The acknowledgment -/

/-- `kind_and_byte(Byte(b)) = 0x100 | b`, `kind_and_byte(Timeout) = 0x200`, `kind_and_byte(Error) = 0x300` (43 R173, 10 R31). -/
def kindAndByte : ReadAnswer → BitVec 10
  | .byte b => 1#2 ++ b
  | .timeout => 0x200#10
  | .error => 0x300#10

/-- `classify(a0, a1)` (43 R174), in the order of its tests: an error of either read, then a timeout of either read, then
the comparison with `('D','N')`. -/
def classify (a0 a1 : ReadAnswer) : AckClass :=
  if a0 = .error ∨ a1 = .error then .readError
  else if a0 = .timeout ∨ a1 = .timeout then .timeout
  else if a0 = .byte ackByte0 ∧ a1 = .byte ackByte1 then .ok
  else .mismatch

/-- The log record of an acknowledgment class, carrying `(ACK_RAW0, ACK_RAW1)` (43 R173, 60 R210); "A successful SEND logs
nothing". -/
def ackEvent (c : AckClass) (raw0 raw1 : BitVec 10) : Option LogEvent :=
  match c with
  | .none => none
  | .ok => none
  | .timeout => some (.ackTimeout raw0 raw1)
  | .readError => some (.ackReadError raw0 raw1)
  | .mismatch => some (.ackMismatch raw0 raw1)

/-! ### The response word and the counter -/

/-- The fields SLOT[23:16], RCHIP[15:14], RCHANNEL[13:10], RCOLOR[9:8] and the zero bits [7:0] of a response (30 R76); all 0
where no slot is reported. -/
def packSlot : Option Slot → BitVec 24
  | none => 0#24
  | some k =>
    BitVec.ofNat 8 k.index.val ++ (BitVec.ofNat 2 k.chip.val ++
      (BitVec.ofNat 4 k.channel.val ++ (BitVec.ofNat 2 k.color.val ++ 0#8)))

/-- The response word `STATUS[31:28] ACK[27:24] SLOT[23:16] RCHIP[15:14] RCHANNEL[13:10] RCOLOR[9:8] 0[7:0]` (30 R76). -/
def packResponse (status : Status) (ack : AckClass) (slot : Option Slot) : Word :=
  status.code ++ (ack.code ++ packSlot slot)

/-- `min(RECONNECT_ATTEMPTS + 1, 0xFFFFFFFF)` (10 R26, 43 R167). -/
def saturatingSucc (n : BitVec 32) : BitVec 32 :=
  if n = 0xFFFFFFFF#32 then n else n + 1#32

/-- Whether `MAX_RECONNECT_ATTEMPTS != none and RECONNECT_ATTEMPTS >= MAX_RECONNECT_ATTEMPTS` (43 R167). -/
def boundReached (bound : ReconnectBound) (attempts : BitVec 32) : Bool :=
  match bound with
  | none => false
  | some m => decide (m.val ≤ attempts.toNat)

/-! ### The command port -/

/-- `cmd_ready`: "1 only when no command is in progress and `STATE` is `CONNECTED`, `FAILED` or `CLOSED`" (30 R70). -/
def State.cmdReady (s : State) : Bool :=
  s.cmd.isNone &&
    match s.state with
    | .connected => true
    | .failed => true
    | .closed => true
    | .disconnected => false
    | .validating => false
    | .opening => false
    | .resetting => false
    | .reconnecting => false
    | .sending => false
    | .awaitingAck => false

end Sys2Proof.Machine
end

