-- ==== Sys2Proof/Machine/Ops.lean ====
section
/-! DEFINITION. The primitives of `00_scope.md` rule R10, as operations on the state: the Pixel Buffer, the output ports, the
Transport requests, the response of a command, and fault entry (`60_exceptions.md` rule R203), the block's one way of taking
an exception. -/

namespace Sys2Proof.Machine

/-! ### The Pixel Buffer -/

/-- `buf[i] <- v`, one whole 16-bit entry (20 R58). -/
def State.writeSlot (s : State) (i : Fin 144) (v : Intensity) : State :=
  { s with buf := s.buf.set i v }

/-- The buffer after `for i in lo .. lo + n - 1: buf[i] <- v`. (Irreducible: `fillBuffer_get` says what it does, and no proof by
unification should run its loop.) -/
@[irreducible] def fillBuffer (b : Vector Intensity 144) (lo n : Nat) (v : Intensity) : Vector Intensity 144 :=
  (List.range n).foldl (fun b i => b.setIfInBounds (lo + i) v) b

/-- A bulk write, one atomic step (20 R58). -/
def State.fillSlots (s : State) (lo n : Nat) (v : Intensity) : State :=
  { s with buf := fillBuffer s.buf lo n v }

/-! ### Output ports and the state register -/

/-- `state <- S`. -/
def State.goto (s : State) (h : HState) : State := { s with state := h }

/-- `log(e)`: append the event to the log output port. -/
def State.log (s : State) (e : LogEvent) : State := { s with logOut := s.logOut ++ [e] }

/-- `emit_frame(f)`: append one record to the frame output port (42 R145). -/
def State.emitFrame (s : State) (f : List Byte) : State := { s with frameOut := s.frameOut ++ [f] }

/-- `respond(status, ack, slot)`: complete the command with this response word; `LAST_STATUS <- STATUS` at the same completion
(30 R76, 10 R29), and the hidden state of the command is dropped (10 R37). -/
def State.respond (s : State) (status : Status) (ack : AckClass) (slot : Option Slot) : State :=
  { s with
    rsp := some (packResponse status ack slot)
    lastStatus := status
    cmd := none
    snapshot := none
    ack0 := none }

/-! ### Transport requests -/

/-- The Transport's answer to the next `TxOpen`: any value of its type (43 R161; log 4). -/
def State.openAnswer (s : State) : TxResult := s.openIn.headD (Config.freeOpenAnswer s.oracleIx)

/-- The Transport's answer to the next `TxWrite`: any value of its type (43 R161; log 4). -/
def State.writeAnswer (s : State) : TxResult := s.writeIn.headD (Config.freeWriteAnswer s.oracleIx)

/-- The Transport's answer to the next `TxRead`: any value of its type (43 R161; log 4). -/
def State.readAnswer (s : State) : ReadAnswer := s.readIn.headD (Config.freeReadAnswer s.oracleIx)

/-- `TxOpen(PORT, BAUD)`, answered with `openAnswer`; `HANDLE_OPEN` is "set by a successful `TxOpen`" (10 R25). -/
def State.txOpen (s : State) : State :=
  { s with
    txTrace := s.txTrace ++ [.openReq s.cfg.port s.cfg.baud s.openAnswer]
    handleOpen := s.handleOpen || decide (s.openAnswer = .ok)
    openIn := s.openIn.tail
    oracleIx := s.oracleIx + 1 }

/-- `TxWrite(bytes)`, one write request, answered with `writeAnswer`. -/
def State.txWrite (s : State) (bytes : List Byte) : State :=
  { s with
    txTrace := s.txTrace ++ [.writeReq bytes s.writeAnswer]
    writeIn := s.writeIn.tail
    oracleIx := s.oracleIx + 1 }

/-- `TxRead(ms)`, one read of one byte, answered with `readAnswer`. -/
def State.txRead (s : State) (ms : Nat) : State :=
  { s with
    txTrace := s.txTrace ++ [.readReq ms s.readAnswer]
    readIn := s.readIn.tail
    oracleIx := s.oracleIx + 1 }

/-- `TxClose(); HANDLE_OPEN <- 0` (10 R25: the flag is "cleared by `TxClose`"). -/
def State.txClose (s : State) : State :=
  { s with txTrace := s.txTrace ++ [.closeReq], handleOpen := false }

/-- The mark of a reset in the record of the Transport port, with the request it left unanswered (70 R232; log 23). -/
def State.noteReset (s : State) (outstanding : Option TxRequest) : State :=
  { s with txTrace := s.txTrace ++ [.rst outstanding] }

/-- Close the handle if it is open: at a fault (60 R203) and at a reset (70 R232). -/
def State.closeIfOpen (s : State) : State := if s.handleOpen then s.txClose else s

/-! ### Fault entry -/

/-- `if FAULT = NONE: FAULT <- code`: "the first fault is kept" (60 R203, 10 R28). -/
def FaultCode.orFirst (old new : FaultCode) : FaultCode :=
  match old with
  | .none => new
  | .portOpenFailed => .portOpenFailed
  | .rebootFailed => .rebootFailed
  | .checksumMismatch => .checksumMismatch
  | .bufferOverflow => .bufferOverflow
  | .resetWriteFailed => .resetWriteFailed
  | .reconnectExhausted => .reconnectExhausted

/-- The first step of fault entry: the code, unless one is held already. -/
def State.keepFirstFault (s : State) (code : FaultCode) : State := { s with fault := s.fault.orFirst code }

/-- `if a command is in progress: respond(FAULTED, ...)` (60 R203). -/
def State.respondFaulted (s : State) : State :=
  if s.cmd.isSome then s.respond .faulted .none none else s

/-- `raise Fault(code)` (60 R203), in its order. There is no return from it (60 R205): recovery is a reset. -/
def State.raiseFault (s : State) (code : FaultCode) : State :=
  (((s.keepFirstFault code).closeIfOpen).goto .failed).respondFaulted

/-! ### The start of every step -/

/-- What every step does to the ports before its own work: it takes this step's sample of `rst`, and a response that stood on
the port goes away, since `rsp_valid` is raised "for that one completion" (30 R70). -/
def State.tick (s : State) : State := { s with rstIn := s.rstIn.tail, rsp := none }

/-- Whether `rst` is asserted in this step (70 R230). -/
def State.rstAsserted (s : State) : Bool := decide (s.rstIn.headD .low ≠ .low)

end Sys2Proof.Machine
end

