-- ==== Sys2Proof/Machine/Serializer.lean ====
section
/-! DEFINITION. The Frame Serializer and SERIALIZE (`42_frame_serializer.md`). -/

namespace Sys2Proof.Machine

/-- One intensity in the frame: "high-byte-first" (42 R140, 20 R56). -/
def intensityBytes (v : Intensity) : List Byte := [hi8 v, lo8 v]

/-- `FRAME(b)` (42 R140): the sync bytes, then every entry in slot index order. It does not read the Address Table (R142). -/
def frame (b : Vector Intensity 144) : List Byte := syncBytes ++ b.toList.flatMap intensityBytes

/-- The capacity check of 42 R141: `FRAME_LEN > FRAME_CAPACITY`. -/
def State.overflows (s : State) : Bool := decide (s.cfg.frameCapacity < frameLen)

/-- What a failed capacity check does (42 R141): log, then raise the fault, which alone responds (90 C10). -/
def State.overflowFault (s : State) : State :=
  (s.log (.bufferOverflow frameLen s.cfg.frameCapacity)).raiseFault .bufferOverflow

/-- SERIALIZE (42 R143). -/
def execSerialize (s : State) : Host.Outcome State Fault Refusal :=
  if s.overflows then .next s.overflowFault
  else .next ((s.emitFrame (frame s.buf)).respond .ok .none none)

end Sys2Proof.Machine
end

