-- ==== Sys2Proof/Machine/Handshake.lean ====
section
/-! DEFINITION. The Transport Handshake (`43_transport_handshake.md`): the construction steps, SEND with its steps, and CLOSE. -/

namespace Sys2Proof.Machine

/-! ### Construction -/

/-- `(INIT_ORDER = ValidateFirst) ? VALIDATING : OPENING` (43 R163). -/
def firstState (order : InitOrder) : HState :=
  match order with
  | .validateFirst => .validating
  | .openFirst => .opening

/-- The start of construction, in `DISCONNECTED` (43 R163). -/
def startConstruction (s : State) : State := s.goto (firstState s.cfg.initOrder)

/-- `(INIT_ORDER = ValidateFirst) ? CONNECTED : VALIDATING` (43 R168). -/
def linkUpState (order : InitOrder) : HState :=
  match order with
  | .validateFirst => .connected
  | .openFirst => .validating

/-- `LINKUP`, the end of link bring-up (43 R168). -/
def State.linkUp (s : State) : State := s.goto (linkUpState s.cfg.initOrder)

/-- The OPENING step (43 R164). -/
def openingStep (s : State) : State :=
  match s.openAnswer with
  | .error => (s.txOpen.log .portOpenFailed).raiseFault .portOpenFailed
  | .ok => if s.cfg.resetOnStart then s.txOpen.goto .resetting else s.txOpen.linkUp

/-- The RESETTING step (43 R166). -/
def resettingStep (s : State) : State :=
  match s.writeAnswer with
  | .error => ((s.txWrite resetCommand).log .resetWriteFailed).raiseFault .resetWriteFailed
  | .ok => { (s.txWrite resetCommand).txClose with reconnectAttempts := 0#32, state := .reconnecting }

/-- One attempt to reopen, counted (43 R167). -/
def State.reopen (s : State) : State :=
  { s.txOpen with reconnectAttempts := saturatingSucc s.reconnectAttempts }

/-- The RECONNECTING step (43 R167): one attempt. A success on the first attempt is a reboot failure. -/
def reconnectingStep (s : State) : State :=
  match s.openAnswer with
  | .ok =>
    if s.reopen.reconnectAttempts = 1#32 then
      (s.reopen.log (.rebootFailed s.reopen.reconnectAttempts)).raiseFault .rebootFailed
    else s.reopen.linkUp
  | .error =>
    if boundReached s.cfg.maxReconnect s.reopen.reconnectAttempts then
      (s.reopen.log (.reconnectExhausted s.reopen.reconnectAttempts)).raiseFault .reconnectExhausted
    else s.reopen.goto .reconnecting

/-! ### SEND -/

/-- SEND at its acceptance (43 R171): `state <- SENDING`. Its effect goes on in the `SENDING` and `AWAITING_ACK` steps below,
and `cmd_ready` stays 0 until one of them responds. -/
def execSend (s : State) : Host.Outcome State Fault Refusal := .next (s.goto .sending)

/-- `ACK_RAW0 <- 0; ACK_RAW1 <- 0` (43 R172). -/
def State.clearAckRaw (s : State) : State := { s with ackRaw0 := 0#10, ackRaw1 := 0#10 }

/-- The SENDING step (43 R172): one write of the whole frame. -/
def sendingStep (s : State) : State :=
  if s.overflows then s.overflowFault
  else
    match s.writeAnswer with
    | .error =>
      ((({ (s.clearAckRaw.txWrite (frame s.buf)) with lastAck := .none }.log .writeError).goto .connected).respond
        .writeError .none none)
    | .ok => { (s.clearAckRaw.txWrite (frame s.buf)) with snapshot := some (frame s.buf), state := .awaitingAck }

/-- The first AWAITING_ACK step (43 R173): `a0 <- TxRead(90)`. -/
def firstAckStep (s : State) : State :=
  { s.txRead ackTimeout0 with ackRaw0 := kindAndByte s.readAnswer, ack0 := some s.readAnswer }

/-- `if c != ACK_OK: log(event of c)` (43 R173). -/
def State.logAck (s : State) (c : AckClass) : State :=
  match ackEvent c s.ackRaw0 s.ackRaw1 with
  | none => s
  | some e => s.log e

/-- The second AWAITING_ACK step (43 R173), "always taken, whatever a0 was": `a1 <- TxRead(10)`, the classification, the
response. -/
def secondAckStep (a0 : ReadAnswer) (s : State) : State :=
  let c := classify a0 s.readAnswer
  ((({ s.txRead ackTimeout1 with ackRaw1 := kindAndByte s.readAnswer, lastAck := c }.logAck c).goto .connected).respond
    .ok c none)

/-- The AWAITING_ACK step: the first read, then the second (43 R173). -/
def awaitingAckStep (s : State) : State :=
  match s.ack0 with
  | none => firstAckStep s
  | some a0 => secondAckStep a0 s

/-! ### CLOSE -/

/-- CLOSE (43 R180). -/
def execClose (s : State) : Host.Outcome State Fault Refusal :=
  .next ((s.txClose.goto .closed).respond .ok .none none)

end Sys2Proof.Machine
end

