-- ==== Sys2Proof/Machine/PixelBuffer.lean ====
section
/-! DEFINITION. The Pixel Buffer commands (`41_pixel_buffer.md`). -/

namespace Sys2Proof.Machine

/-- SET_PIXEL (41 R121). -/
def execSetPixel (x y : Nat) (intensity : Intensity) (s : State) : Host.Outcome State Fault Refusal :=
  match s.cfg.table.resolve x y with
  | none => .next (s.respond .outOfRange .none none)
  | some k => .next ((s.writeSlot k.index intensity).respond .ok .none (some k))

/-- SET_ALL (41 R122). -/
def execSetAll (intensity : Intensity) (s : State) : Host.Outcome State Fault Refusal :=
  .next ((s.fillSlots 0 144 intensity).respond .ok .none none)

/-- SET_CHIP_GROUP (41 R123): the 48 slots `48·chipIndex .. 48·chipIndex + 47`. -/
def execSetChipGroup (chipIndex : Nat) (intensity : Intensity) (s : State) : Host.Outcome State Fault Refusal :=
  if chipIndex < 3 then .next ((s.fillSlots (48 * chipIndex) 48 intensity).respond .ok .none none)
  else .next (s.respond .invalidChip .none none)

end Sys2Proof.Machine
end

