-- ==== Sys2Proof/Machine/Validator.lean ====
section
/-! DEFINITION. The Address Table, the Table Validator and RESOLVE (`40_address_table.md`). -/

namespace Sys2Proof.Machine

/-- The 144 cells in the order of the loops of 40 R104: y outside, x inside. -/
def gridCells : List (Fin 9 × Fin 16) :=
  (List.finRange 16).flatMap fun y => (List.finRange 9).map fun x => (x, y)

/-- What a cell adds to its channel's sum: `colorLane + chip` (40 R102). -/
def cellWeight (t : AddressTable) (p : Fin 9 × Fin 16) : Nat :=
  (t.lookup p.1 p.2).color.val + (t.lookup p.1 p.2).chip.val

/-- `S[c]` as 40 R102 defines it: the sum of `colorLane + chip` over the cells whose channel is `c`. -/
def channelSum (t : AddressTable) (c : Fin 16) : Nat :=
  ((gridCells.filter fun p => decide ((t.lookup p.1 p.2).channel = c)).map (cellWeight t)).sum

/-- One turn of the loop of 40 R104: `S[ch] <- S[ch] + col + k`. -/
def addCell (t : AddressTable) (sums : Vector Nat 16) (p : Fin 9 × Fin 16) : Vector Nat 16 :=
  let ch := (t.lookup p.1 p.2).channel
  sums.set ch (sums[ch] + cellWeight t p)

/-- The sums that the loop of 40 R104 computes. -/
def validatorSums (t : AddressTable) : Vector Nat 16 :=
  gridCells.foldl (addCell t) (Vector.replicate 16 0)

/-- `validate() → Ok | ChecksumMismatch(details)` (40 R104). -/
inductive ValidateResult where
  | ok (sums : Vector Nat 16)
  | checksumMismatch (expected : Nat) (sums : Vector Nat 16)
deriving DecidableEq, Repr

/-- The validation function, "a pure function of the table" (40 R104). -/
def validate (t : AddressTable) : ValidateResult :=
  if ∀ c : Fin 16, (validatorSums t)[c] = kExpected then .ok (validatorSums t)
  else .checksumMismatch kExpected (validatorSums t)

/-- The sixteen sums as the 16-bit registers `CHK_SUM` hold them; 16 bits are enough for every sum (40 R102, 00 R7). -/
def sumRegisters (sums : Vector Nat 16) : Vector (BitVec 16) 16 := sums.map (BitVec.ofNat 16)

/-- `(INIT_ORDER = ValidateFirst) ? OPENING : CONNECTED` (40 R105). -/
def validatedState (order : InitOrder) : HState :=
  match order with
  | .validateFirst => .opening
  | .openFirst => .connected

/-- Write the report of a validation: `CHK_SUM[0..15]`, all at once, and `CHK_STATUS` (40 R105, 10 R32, R34). -/
def State.report (s : State) (sums : Vector Nat 16) (status : ChkStatus) : State :=
  { s with chkSum := sumRegisters sums, chkStatus := status }

/-- The VALIDATING step (40 R105). -/
def validatingStep (s : State) : State :=
  match validate s.cfg.table with
  | .ok sums => (s.report sums .passed).goto (validatedState s.cfg.initOrder)
  | .checksumMismatch expected sums =>
    ((s.report sums .failed).log (.checksumMismatch (BitVec.ofNat 16 expected) (sumRegisters sums))).raiseFault
      .checksumMismatch

/-- RESOLVE (40 R107). -/
def execResolve (x y : Nat) (s : State) : Host.Outcome State Fault Refusal :=
  match s.cfg.table.resolve x y with
  | none => .next (s.respond .outOfRange .none none)
  | some k => .next (s.respond .ok .none (some k))

end Sys2Proof.Machine
end

