-- ==== Sys2Proof/Machine/Dispatch.lean ====
section
/-! DEFINITION. One arm for each command of the opcode map (`30_encoding.md` rule R73). -/

namespace Sys2Proof.Machine

def exec (i : Instr) (s : State) : Host.Outcome State Fault Refusal :=
  match i with
  | .resolve x y => Sys2Proof.Machine.execResolve x y s
  | .setPixel x y intensity => Sys2Proof.Machine.execSetPixel x y intensity s
  | .setAll intensity => Sys2Proof.Machine.execSetAll intensity s
  | .setChipGroup chipIndex intensity => Sys2Proof.Machine.execSetChipGroup chipIndex intensity s
  | .serialize => Sys2Proof.Machine.execSerialize s
  | .send => Sys2Proof.Machine.execSend s
  | .close => Sys2Proof.Machine.execClose s

end Sys2Proof.Machine
end

