-- ==== Sys2Proof/Machine/Command.lean ====
section
/-! DEFINITION. The command port: acceptance, and the order of checks of an accepted word (`30_encoding.md` rules R70, R79). -/

namespace Sys2Proof.Machine

/-- The state with the accepted command as the command in progress (10 R37); `cmd_word` is read "only at acceptance" (30 R70). -/
def State.beginCommand (s : State) (i : Instr) : State := { s with cmd := some i }

/-- The decode of an accepted command word (30 R79): `NOT_READY`, then `ILLEGAL_COMMAND`, then the rule of the command. -/
def runCommandWord (w : Word) (s : State) : Host.Outcome State Fault Refusal :=
  if s.state = .failed ∨ s.state = .closed then .next (s.respond .notReady .none none)
  else
    match decode w with
    | .error _ => .next (s.respond .illegalCommand .none none)
    | .ok i => exec i (s.beginCommand i)

/-- A step of the command port (30 R70): a command is accepted where `cmd_valid` = 1 and `cmd_ready` = 1; until then it is held
"with no step" (70 R235), and with no command presented the block stays as it is (70 R242). -/
def commandStep (s : State) : Host.Outcome State Fault Refusal :=
  match s.cmdIn with
  | [] => .next s
  | w :: rest => if s.cmdReady then runCommandWord w { s with cmdIn := rest } else .next s

/-- Where `withFetchWord` puts the block so that its next step accepts the word `w`: in `CONNECTED`, with the handle open as it
is there (43 R162), no command in progress, `rst` low in this step, and `w` first on the command port (log 6). -/
def State.presentCommand (s : State) (w : Word) : State :=
  { s with
    state := .connected
    handleOpen := true
    cmd := none
    rstIn := .low :: s.rstIn
    cmdIn := w :: s.cmdIn }

end Sys2Proof.Machine
end

