-- ==== Sys2Proof/Machine/Reset.lean ====
section
/-! DEFINITION. The reset input (`70_reset_and_hazards.md` rules R230 to R232). -/

namespace Sys2Proof.Machine

/-- The request that the block makes in a step of its handshake and whose answer the step waits for: `TxOpen` (43 R164, R167),
`TxWrite` of the reset command (43 R166), `TxWrite` of the frame, after the capacity check (43 R172), `TxRead(90)` and then
`TxRead(10)` (43 R173). No other step waits for an answer; `TxClose` has none (43 R160). -/
def State.requestOfStep (s : State) : Option TxRequest :=
  match s.state with
  | .opening => some (.txOpen s.cfg.port s.cfg.baud)
  | .reconnecting => some (.txOpen s.cfg.port s.cfg.baud)
  | .resetting => some (.txWrite resetCommand)
  | .sending => if s.overflows then none else some (.txWrite (frame s.buf))
  | .awaitingAck => some (.txRead (if s.ack0.isSome then ackTimeout1 else ackTimeout0))
  | .disconnected => none
  | .validating => none
  | .connected => none
  | .failed => none
  | .closed => none

/-- The request that a reset in this step leaves without an answer: the one of the step, where `rst` is asserted while it is
outstanding. So a frame may be "partly or wholly on the wire" when the reset comes in `SENDING` (70 R232; log 23). -/
def State.cutRequest (s : State) : Option TxRequest :=
  if s.rstIn.headD .low = .duringRequest then s.requestOfStep else none

/-- The step in which `rst` is asserted (70 R230): the command in progress is abandoned without a response, and with it a request
that is still `outstanding`; an open handle is closed first, with no flush (R232); every piece of state takes its reset value
(R231); construction starts at the next step. An answer to the outstanding request never reaches the block, so a `TxOpen` cut
this way gives it no handle (log 23). The configuration, the record of the Transport port and what the outside world still has
to present are not the block's to reset (log 8, 16, 22). -/
def applyReset (outstanding : Option TxRequest) (s : State) : State :=
  { State.resetWith s.cfg with
    txTrace := (s.noteReset outstanding).closeIfOpen.txTrace
    rstIn := s.rstIn
    cmdIn := s.cmdIn
    openIn := s.openIn
    writeIn := s.writeIn
    readIn := s.readIn
    oracleIx := s.oracleIx }

end Sys2Proof.Machine
end

