-- ==== Sys2Proof/Machine/Control.lean ====
section
/-! DEFINITION. What the block does in one step (`43_transport_handshake.md` rule R162): a reset, a step of the handshake state
machine, or a step of the command port. -/

namespace Sys2Proof.Machine

/-- The step in a state where `rst` is low and the ports have been sampled: the rows of the transition table of 43 R162 for the
value of `STATE`. -/
def handshakeStep (s : State) : Host.Outcome State Fault Refusal :=
  match s.state with
  | .disconnected => .next (startConstruction s)
  | .validating => .next (validatingStep s)
  | .opening => .next (openingStep s)
  | .resetting => .next (resettingStep s)
  | .reconnecting => .next (reconnectingStep s)
  | .connected => commandStep s
  | .sending => .next (sendingStep s)
  | .awaitingAck => .next (awaitingAckStep s)
  | .failed => commandStep s
  | .closed => commandStep s

/-- One step: `rst` wins over everything else, since it "may be asserted in any state" (70 R230). -/
def blockStep (s : State) : Host.Outcome State Fault Refusal :=
  if s.rstAsserted then .next (applyReset s.cutRequest s.tick) else handshakeStep s.tick

end Sys2Proof.Machine
end

