-- ==== Sys2Proof/Machine/Step.lean ====
section
/-! DEFINITION. The step of the machine, and a command placed where the next step takes it. -/

namespace Sys2Proof.Machine

/-- One step of the block (43 R162, 70 R230). -/
def step (s : State) : Host.Outcome State Fault Refusal := blockStep s

/-- `s` with the command word `w` (of `nbits` bits) where the next step takes its command: on the command port, of a block that
accepts it (log 6). -/
def State.withFetchWord (s : State) (nbits w : Nat) : State :=
  s.presentCommand (BitVec.ofNat 32 (w % 2 ^ nbits))

end Sys2Proof.Machine
end

