-- ==== Sys2Proof/Machine/Admission.lean ====
section
/-! DEFINITION. Which configurations a model admits (`40_address_table.md` rule R101, `00_scope.md` rule R6): the parameters as
they come from outside, with numbers that may be out of range, and the admission that refuses those. -/

namespace Sys2Proof

/-- The configuration parameters of 00 R6 with nothing checked. The three tables are indexed by `(x, y)`. -/
structure RawConfig where
  chipTbl       : Nat → Nat → Nat
  channelTbl    : Nat → Nat → Nat
  colorTbl      : Nat → Nat → Nat
  port          : String
  baud          : Nat
  resetOnStart  : Bool
  maxReconnect  : Option Nat
  frameCapacity : Nat
  initOrder     : InitOrder

/-- Why a configuration is refused. -/
inductive ConfigProblem where
  /-- an entry of the table is out of range (40 R101, 93 I15) -/
  | illFormedTable
  /-- a bound on reconnect attempts below 2 (00 R6, 90 C9) -/
  | boundBelowTwo
deriving DecidableEq, Repr

/-- `wf(TBL)` (40 R101). -/
def RawConfig.tableWf (r : RawConfig) : Bool :=
  decide (∀ x : Fin 9, ∀ y : Fin 16,
    r.chipTbl x y ≤ 2 ∧ r.channelTbl x y ≤ 15 ∧ r.colorTbl x y ≤ 2)

/-- The checked table of a well-formed raw one. -/
def RawConfig.table (r : RawConfig) : AddressTable :=
  AddressTable.ofNumbered fun n =>
    { chip := Fin.ofNat 3 (r.chipTbl (n.val % 9) (n.val / 9))
      channel := Fin.ofNat 16 (r.channelTbl (n.val % 9) (n.val / 9))
      color := Fin.ofNat 3 (r.colorTbl (n.val % 9) (n.val / 9)) }

/-- The checked bound, where it is `none` or at least 2 (00 R6). -/
def admitBound : Option Nat → Except ConfigProblem ReconnectBound
  | none => .ok none
  | some n => if h : 2 ≤ n then .ok (some ⟨n, h⟩) else .error .boundBelowTwo

/-- "A model admits only well-formed tables and refuses a run with any other table" (40 R101), and the bound "is `none` or at
least 2" (43 R167). -/
def RawConfig.checked (r : RawConfig) : Except ConfigProblem Config :=
  if r.tableWf then
    match admitBound r.maxReconnect with
    | .ok bound =>
      .ok { table := r.table, port := r.port, baud := r.baud, resetOnStart := r.resetOnStart, maxReconnect := bound,
            frameCapacity := r.frameCapacity, initOrder := r.initOrder }
    | .error e => .error e
  else .error .illFormedTable

end Sys2Proof
end

