-- ==== Sys2Proof/Machine/Assembler.lean ====
section
/-! DEFINITION. The assembler syntax and the pseudo-instructions of `30_encoding.md` rules R81 and R82. It is no part of the
block: it says which words a line of `95_test_vectors.md` stands for, the `.word` lines of its P3 among them, whose meaning is the
model's choice (log 18). -/

namespace Sys2Proof

/-- The pseudo-instructions (30 R82). -/
inductive Pseudo where
  | clear
  | blankChip (k : Nat)
  | lightChip (k : Nat)
deriving DecidableEq, Repr

/-- "Each expands to exactly one command" (30 R82). -/
def Pseudo.expand : Pseudo → Instr
  | .clear => .setAll 0#16
  | .blankChip k => .setChipGroup k 0#16
  | .lightChip k => .setChipGroup k 0xFFFF#16

/-- Why a line is refused. -/
inductive AsmError where
  | unknownMnemonic
  | notANumber
  | wrongNumberOfOperands
  | operandDoesNotFit
deriving DecidableEq, Repr

/-- The word of a command, refused where an operand does not fit its field (30 R81). -/
def assemble (i : Instr) : Except AsmError Word := if i.wf then .ok (encode i) else .error .operandDoesNotFit

/-! ### Lines of text -/

/-- The white space between the parts of a line (log 18). -/
def isBlank (c : Char) : Bool := c == ' ' || c == '\t'

/-- A piece of a line without the white space around it. -/
def trimBlanks (l : List Char) : List Char := ((l.dropWhile isBlank).reverse.dropWhile isBlank).reverse

/-- "`;` to end of line a comment". -/
def dropComment (l : List Char) : List Char := l.takeWhile (· != ';')

/-- The operands, "separated by commas". -/
def splitCommas : List Char → List (List Char)
  | [] => [[]]
  | c :: l =>
    match splitCommas l with
    | [] => [[c]]
    | piece :: more => if c == ',' then [] :: piece :: more else (c :: piece) :: more

/-- The value of one digit; the letters of a hexadecimal digit are read in either case (log 18). -/
def digitValue (base : Nat) (c : Char) : Option Nat :=
  let n := c.toNat
  let v :=
    if 48 ≤ n && n ≤ 57 then n - 48
    else if 97 ≤ n && n ≤ 102 then n - 87
    else if 65 ≤ n && n ≤ 70 then n - 55
    else 16
  if v < base then some v else none

/-- The number written by digits, most significant first. -/
def digitsValue (base : Nat) : Nat → List Char → Option Nat
  | acc, [] => some acc
  | acc, c :: l =>
    match digitValue base c with
    | some d => digitsValue base (base * acc + d) l
    | none => none

/-- "numbers in decimal or `0x` hexadecimal" (30 R81). -/
def numberValue : List Char → Option Nat
  | [] => none
  | '0' :: 'x' :: [] => none
  | '0' :: 'x' :: l => digitsValue 16 0 l
  | l => digitsValue 10 0 l

/-- The numbers of an operand list; an empty list has no operand. -/
def operandValues (l : List Char) : Option (List Nat) :=
  match trimBlanks l with
  | [] => some []
  | t => (splitCommas t).mapM fun piece => numberValue (trimBlanks piece)

/-- An intensity operand, refused above 65535 (30 R81). -/
def intensityOperand (n : Nat) : Except AsmError Intensity :=
  if n < 65536 then .ok (BitVec.ofNat 16 n) else .error .operandDoesNotFit

/-- The command of a mnemonic and its operands, in the order of 30 R81 and R82. A mnemonic that these rules do not name is refused;
`.word`, which they do not define, is read by `wordOfLine`. -/
def commandOfLine (mnemonic : List Char) (operands : List Nat) : Except AsmError Instr :=
  if mnemonic = "RESOLVE".toList then
    match operands with
    | [x, y] => .ok (.resolve x y)
    | _ => .error .wrongNumberOfOperands
  else if mnemonic = "SET_PIXEL".toList then
    match operands with
    | [x, y, v] => (intensityOperand v).map fun w => .setPixel x y w
    | _ => .error .wrongNumberOfOperands
  else if mnemonic = "SET_ALL".toList then
    match operands with
    | [v] => (intensityOperand v).map fun w => .setAll w
    | _ => .error .wrongNumberOfOperands
  else if mnemonic = "SET_CHIP_GROUP".toList then
    match operands with
    | [k, v] => (intensityOperand v).map fun w => .setChipGroup k w
    | _ => .error .wrongNumberOfOperands
  else if mnemonic = "SERIALIZE".toList then
    match operands with
    | [] => .ok .serialize
    | _ => .error .wrongNumberOfOperands
  else if mnemonic = "SEND".toList then
    match operands with
    | [] => .ok .send
    | _ => .error .wrongNumberOfOperands
  else if mnemonic = "CLOSE".toList then
    match operands with
    | [] => .ok .close
    | _ => .error .wrongNumberOfOperands
  else if mnemonic = "CLEAR".toList then
    match operands with
    | [] => .ok (Pseudo.expand .clear)
    | _ => .error .wrongNumberOfOperands
  else if mnemonic = "BLANK_CHIP".toList then
    match operands with
    | [k] => .ok (Pseudo.expand (.blankChip k))
    | _ => .error .wrongNumberOfOperands
  else if mnemonic = "LIGHT_CHIP".toList then
    match operands with
    | [k] => .ok (Pseudo.expand (.lightChip k))
    | _ => .error .wrongNumberOfOperands
  else .error .unknownMnemonic

/-- The word of a `.word` line: its one number, if it fits 32 bits. DESIGN CHOICE (log 18): 95 P3 writes such lines, for words that
are no command, and 30 R81 does not define them. -/
def rawWord : List Nat → Except AsmError Word
  | [n] => if n < 2 ^ 32 then .ok (BitVec.ofNat 32 n) else .error .operandDoesNotFit
  | _ => .error .wrongNumberOfOperands

/-- The word of a line's mnemonic and operands: of a `.word` line (log 18), or of a command (30 R81, R82). -/
def wordOfLine (mnemonic : List Char) (operands : List Nat) : Except AsmError Word :=
  if mnemonic = ".word".toList then rawWord operands
  else
    match commandOfLine mnemonic operands with
    | .error e => .error e
    | .ok i => assemble i

/-- The command word of one line, "One command per line, mnemonic first" (30 R81), or the word of a `.word` line (95 P3, log 18); no
word where the line holds neither. -/
def assembleLine (line : List Char) : Except AsmError (Option Word) :=
  match trimBlanks (dropComment line) with
  | [] => .ok none
  | text =>
    match operandValues (text.dropWhile fun c => !isBlank c) with
    | none => .error .notANumber
    | some operands => (wordOfLine (text.takeWhile fun c => !isBlank c) operands).map some

end Sys2Proof
end

