-- ==== Sys2Proof/Machine/StatusPort.lean ====
section
/-! DEFINITION. The status read port (`10_state.md` rule R27). -/

namespace Sys2Proof.Machine

/-- The value of the status register at `addr`, in any state and with no side effect; unused bits and addresses not in the map
read as 0. `CHK_EXPECTED` always reads `K_EXPECTED` (10 R33). -/
def statusRead (s : State) (addr : BitVec 8) : Word :=
  match addr.toNat with
  | 0x00 => s.state.code.setWidth 32
  | 0x01 => s.fault.code.setWidth 32
  | 0x02 => s.lastStatus.code.setWidth 32
  | 0x03 => s.lastAck.code.setWidth 32
  | 0x04 => s.ackRaw0.setWidth 32
  | 0x05 => s.ackRaw1.setWidth 32
  | 0x06 => s.chkStatus.code.setWidth 32
  | 0x07 => BitVec.ofNat 32 kExpected
  | 0x08 => s.reconnectAttempts
  | 0x09 => (BitVec.ofBool s.handleOpen).setWidth 32
  | n => if h : 0x10 ≤ n ∧ n < 0x20 then (s.chkSum[n - 0x10]).setWidth 32 else 0#32

end Sys2Proof.Machine
end

