-- ==== Sys2Proof/Safety.lean ====
section
/-! DEFINITION. What counts as a good state, a legal transition and a legal Transport exchange, in the words of the spec: the
terms in which claims are made. Nothing here is used by the step. -/

namespace Sys2Proof.Machine

/-! ### The invariants -/

/-- Where the block holds a Transport handle (43 R162, the invariant after the transition table). -/
def HState.holdsHandle (order : InitOrder) : HState → Bool
  | .connected => true
  | .sending => true
  | .awaitingAck => true
  | .resetting => true
  | .validating => decide (order = .openFirst)
  | .disconnected => false
  | .opening => false
  | .reconnecting => false
  | .failed => false
  | .closed => false

/-- `HANDLE_OPEN` is 1 exactly in the states that 43 R162 names. -/
abbrev HandleMatchesState (s : State) : Prop := s.handleOpen = s.state.holdsHandle s.cfg.initOrder

/-- `FAULT` is nonzero exactly in `FAILED` (10 R28, 60 R202, R203; 70 R242 "`STATE` = `FAILED` (fatal; `FAULT` ≠ 0)"). -/
abbrev FaultMatchesState (s : State) : Prop := s.state = .failed ↔ s.fault ≠ .none

/-- The hidden state of 10 R37 stands exactly while a SEND runs: the command from its acceptance to its response, the frame
snapshot (which "equals the buffer throughout the send", 20 R58) and the first read result (which "is also copied to
`ACK_RAW0`") in `AWAITING_ACK`. -/
abbrev HiddenMatchesState (s : State) : Prop :=
  (s.cmd = if s.state = .sending ∨ s.state = .awaitingAck then some .send else none) ∧
  (s.snapshot = if s.state = .awaitingAck then some (frame s.buf) else none) ∧
  (∀ a ∈ s.ack0, s.state = .awaitingAck ∧ s.ackRaw0 = kindAndByte a)

/-- The table passes: every channel sum is 18 (40 R102 to R104). -/
abbrev tablePasses (t : AddressTable) : Prop := ∀ c : Fin 16, channelSum t c = 18

/-- `CHK_STATUS` and `CHK_SUM` report the validation of the table (10 R32, R34), or nothing before it. -/
abbrev ReportMatchesTable (s : State) : Prop :=
  (s.chkStatus = .notRun → ∀ c : Fin 16, s.chkSum[c] = 0#16) ∧
  (s.chkStatus ≠ .notRun → ∀ c : Fin 16, (s.chkSum[c]).toNat = channelSum s.cfg.table c) ∧
  (s.chkStatus = .passed → tablePasses s.cfg.table) ∧
  (s.chkStatus = .failed → ¬ tablePasses s.cfg.table ∧ s.state = .failed)

/-- Where the validator has run (40 R105 "It runs exactly once per construction", 70 R233): it has not before its place in the
order of construction, and it has, with success, in every state in which a frame can be sent. -/
abbrev ValidatedInOrder (s : State) : Prop :=
  (s.state = .disconnected ∨ s.state = .validating → s.chkStatus = .notRun) ∧
  (s.state = .opening ∨ s.state = .resetting ∨ s.state = .reconnecting →
    s.chkStatus = if s.cfg.initOrder = .validateFirst then .passed else .notRun) ∧
  (s.state = .connected ∨ s.state = .sending ∨ s.state = .awaitingAck ∨ s.state = .closed → s.chkStatus = .passed)

/-! ### The Transport exchange -/

/-- How far the exchange on the Transport port has come: no handle; a handle with nothing outstanding; a handle that is closed
"before anything else" (after the reset command, 43 R166, and at a reset, 70 R232); a frame written (the first read follows);
the first acknowledgment byte read. -/
inductive TxPhase where
  | noHandle
  | idle
  | closing
  | frameSent
  | halfRead
deriving DecidableEq, Repr

/-- A byte sequence of the form of a frame: 290 bytes that begin with `'G','O'` (42 R140). -/
def isFrame (bytes : List Byte) : Bool := decide (bytes.length = 290) && decide (bytes.take 2 = [0x47#8, 0x4F#8])

/-- Whether a byte sequence is one that the block writes (20 R62): the reset command `'R','T'`, or one of the form of a frame. -/
def isBlockWrite (bytes : List Byte) : Bool := decide (bytes = [0x52#8, 0x54#8]) || isFrame bytes

/-- The legal exchange: write, read and close only with a handle, open only without one (43 R160); the reset command `'R','T'` is
one write and the handle is closed after it (43 R166); a frame is one write, and after it, if it was answered `Ok`, come
`TxRead(90)` and then `TxRead(10)` (20 R60). A reset may come at any time, and may leave without an answer a request that would have
been legal; an open handle is closed at once after it (70 R232). -/
def TxPhase.next : TxPhase → TxEvent → Option TxPhase
  | .noHandle, .openReq _ _ .ok => some .idle
  | .noHandle, .openReq _ _ .error => some .noHandle
  | .noHandle, .writeReq _ _ => none
  | .noHandle, .readReq _ _ => none
  | .noHandle, .closeReq => none
  | .noHandle, .rst none => some .noHandle
  | .noHandle, .rst (some (.txOpen _ _)) => some .noHandle
  | .noHandle, .rst (some (.txWrite _)) => none
  | .noHandle, .rst (some (.txRead _)) => none
  | .idle, .writeReq bytes answer =>
    if bytes = [0x52#8, 0x54#8] then some .closing
    else if isFrame bytes then
      match answer with
      | .ok => some .frameSent
      | .error => some .idle
    else none
  | .idle, .closeReq => some .noHandle
  | .idle, .openReq _ _ _ => none
  | .idle, .readReq _ _ => none
  | .idle, .rst none => some .closing
  | .idle, .rst (some (.txWrite bytes)) => if isBlockWrite bytes then some .closing else none
  | .idle, .rst (some (.txOpen _ _)) => none
  | .idle, .rst (some (.txRead _)) => none
  | .closing, .closeReq => some .noHandle
  | .closing, .openReq _ _ _ => none
  | .closing, .writeReq _ _ => none
  | .closing, .readReq _ _ => none
  | .closing, .rst _ => none
  | .frameSent, .readReq ms _ => if ms = 90 then some .halfRead else none
  | .frameSent, .closeReq => none
  | .frameSent, .openReq _ _ _ => none
  | .frameSent, .writeReq _ _ => none
  | .frameSent, .rst none => some .closing
  | .frameSent, .rst (some (.txRead ms)) => if ms = 90 then some .closing else none
  | .frameSent, .rst (some (.txOpen _ _)) => none
  | .frameSent, .rst (some (.txWrite _)) => none
  | .halfRead, .readReq ms _ => if ms = 10 then some .idle else none
  | .halfRead, .closeReq => none
  | .halfRead, .openReq _ _ _ => none
  | .halfRead, .writeReq _ _ => none
  | .halfRead, .rst none => some .closing
  | .halfRead, .rst (some (.txRead ms)) => if ms = 10 then some .closing else none
  | .halfRead, .rst (some (.txOpen _ _)) => none
  | .halfRead, .rst (some (.txWrite _)) => none

/-- The phase after a whole exchange that began with no handle; none where some request of it was not legal. -/
def phaseAfter (trace : List TxEvent) : Option TxPhase :=
  trace.foldl (fun p e => p.bind fun q => q.next e) (some .noHandle)

/-- The phase that belongs to a state of the block. -/
def State.phase (s : State) : TxPhase :=
  match s.state with
  | .connected => .idle
  | .sending => .idle
  | .resetting => .idle
  | .validating => if s.cfg.initOrder = .openFirst then .idle else .noHandle
  | .awaitingAck => if s.ack0.isSome then .halfRead else .frameSent
  | .disconnected => .noHandle
  | .opening => .noHandle
  | .reconnecting => .noHandle
  | .failed => .noHandle
  | .closed => .noHandle

/-- Every request made so far was legal, and the exchange stands where the state says. -/
abbrev ExchangeIsLegal (s : State) : Prop := phaseAfter s.txTrace = some s.phase

/-- The invariant of the whole machine. -/
abbrev Inv (s : State) : Prop :=
  HandleMatchesState s ∧ FaultMatchesState s ∧ HiddenMatchesState s ∧ ReportMatchesTable s ∧ ValidatedInOrder s ∧
    ExchangeIsLegal s

/-- The byte sequences written by an exchange, oldest first, with the one whose write a reset left without an answer. -/
def writesOf (trace : List TxEvent) : List (List Byte) :=
  trace.filterMap fun e =>
    match e with
    | .writeReq bytes _ => some bytes
    | .rst (some (.txWrite bytes)) => some bytes
    | .rst (some (.txOpen _ _)) => none
    | .rst (some (.txRead _)) => none
    | .rst none => none
    | .openReq _ _ _ => none
    | .readReq _ _ => none
    | .closeReq => none

/-- A reset with no write outstanding: before the block asked for the next thing, or during a read. -/
def TxEvent.isResetInAck : TxEvent → Bool
  | .rst none => true
  | .rst (some (.txRead _)) => true
  | .rst (some (.txWrite _)) => false
  | .rst (some (.txOpen _ _)) => false
  | .openReq _ _ _ => false
  | .writeReq _ _ => false
  | .readReq _ _ => false
  | .closeReq => false

/-- Whether `more` says that a reset came in the `AWAITING_ACK` of the frame written just before: before its first read was answered,
or after that and before its second was (43 R173). -/
def resetsInAck : List TxEvent → Bool
  | .readReq _ _ :: e :: _ => e.isResetInAck
  | e :: _ => e.isResetInAck
  | [] => false

/-- What the event `e`, followed by the events `more`, may have put on the wire. A write answered `Ok` put out all its bytes, and
one answered `Error` "any prefix of its bytes ..., from none to all" (43 R161, 93 I4; log 10). If a reset comes in `SENDING` or
`AWAITING_ACK`, "the frame may be partly or wholly on the wire" (70 R232): any prefix of a write that the reset left without an
answer, and of a frame whose acknowledgment it abandoned (log 23). No other event puts out a byte: "nothing else is written"
(20 R62). -/
def mayPutOut (e : TxEvent) (more : List TxEvent) (piece : List Byte) : Prop :=
  match e with
  | .writeReq bytes .ok => if resetsInAck more then ∃ n, piece = bytes.take n else piece = bytes
  | .writeReq bytes .error => ∃ n, piece = bytes.take n
  | .rst (some (.txWrite bytes)) => ∃ n, piece = bytes.take n
  | .rst (some (.txOpen _ _)) => piece = []
  | .rst (some (.txRead _)) => piece = []
  | .rst none => piece = []
  | .openReq _ _ _ => piece = []
  | .readReq _ _ => piece = []
  | .closeReq => piece = []

/-- What an exchange may have put on the wire: what its events may have put out, one after the other. -/
def mayBeOnWire : List TxEvent → List Byte → Prop
  | [], wire => wire = []
  | e :: more, wire => ∃ piece rest, wire = piece ++ rest ∧ mayPutOut e more piece ∧ mayBeOnWire more rest

/-! ### Transitions and runs -/

/-- Where the link comes up to: `LINKUP` (43 R168). -/
def linkUpTarget (order : InitOrder) : HState := if order = .validateFirst then .connected else .validating

/-- The transition table of 43 R162 with the conditions on the configuration, without the row of `rst`. A state in which the block
only waits for a command stays as it is. -/
def mayGo (c : Config) : HState → HState → Bool
  | .disconnected, t => decide (t = if c.initOrder = .validateFirst then .validating else .opening)
  | .validating, t => decide (t = .failed) || decide (t = if c.initOrder = .validateFirst then .opening else .connected)
  | .opening, t => decide (t = .failed) || decide (t = if c.resetOnStart then .resetting else linkUpTarget c.initOrder)
  | .resetting, t => decide (t = .failed) || decide (t = .reconnecting)
  | .reconnecting, t => decide (t = .failed) || decide (t = .reconnecting) || decide (t = linkUpTarget c.initOrder)
  | .connected, t =>
    decide (t = .connected) || decide (t = .sending) || decide (t = .closed) || decide (t = .failed)
  | .sending, t => decide (t = .failed) || decide (t = .connected) || decide (t = .awaitingAck)
  | .awaitingAck, t => decide (t = .awaitingAck) || decide (t = .connected)
  | .failed, t => decide (t = .failed)
  | .closed, t => decide (t = .closed)

/-- The run of the block is over (70 R242). -/
def State.isOver (s : State) : Bool :=
  match s.state with
  | .connected => s.cmd.isNone && s.cmdIn.isEmpty
  | .failed => true
  | .closed => true
  | .disconnected => false
  | .validating => false
  | .opening => false
  | .resetting => false
  | .reconnecting => false
  | .sending => false
  | .awaitingAck => false

/-- `k` steps of the machine. -/
def runSteps (k : Nat) (s : State) : Host.Outcome State Fault Refusal := Host.Core.run Sys2Proof.core k s

/-- The fields of a response word, read from its bits as 30 R76 numbers them. -/
abbrev ResponseIs (w : Word) (status ack slot chip channel color : Nat) : Prop :=
  (w.extractLsb' 28 4).toNat = status ∧ (w.extractLsb' 24 4).toNat = ack ∧ (w.extractLsb' 16 8).toNat = slot ∧
  (w.extractLsb' 14 2).toNat = chip ∧ (w.extractLsb' 10 4).toNat = channel ∧ (w.extractLsb' 8 2).toNat = color ∧
  w.extractLsb' 0 8 = 0#8

end Sys2Proof.Machine
end

