-- ==== Sys2Proof/Certificates/Slice0/Obligations.lean ====
section
/-! DEFINITION. The statements about the model, in the order of OBLIGATIONS.json. Each docstring names the rule of spec/ it
formalises. Statements are about every configuration and every state, those no run reaches included, unless an invariant of
`Safety.lean` stands as a premise; that every step keeps it is a statement of its own. Where a next state is written out, the input
ports (`rstIn`, `cmdIn`, `openIn`, `writeIn`, `readIn`) and the model's own `oracleIx` move on as logs 4 and 5 say: that is the
model's choice, and a statement of basis 'stated' leaves those fields open (`t.rstIn` and so on). -/

open Sys2Proof Sys2Proof.Machine

/-! ### Encoding -/

/-- 30 R71, R73, R81: no bit of an encoding is dropped. -/
def Obligations.DecodeOfEncodeIsTheCommand : Prop :=
  ∀ i : Instr, i.wf = true → decode (encode i) = .ok i

/-- 30 R73, R75: a word that decodes is the encoding of what it decodes to, so each command has one word. -/
def Obligations.EncodeOfDecodeIsTheWord : Prop :=
  ∀ (w : Word) (i : Instr), decode w = .ok i → i.wf = true ∧ encode i = w

/-- 30 R73 to R75, R79 and spec/opcode_table.json: the decoder accepts exactly the words that match a row of the table; a reserved
OP is refused as reserved; every other refusal is a must-be-zero field. -/
def Obligations.DecodeAcceptsExactlyTheTable : Prop :=
  ∀ w : Word,
    ((∃ i, decode w = .ok i) ↔ ∃ row ∈ opcodeTable, w &&& row.mask = row.value) ∧
    (decode w = .error .reservedOpcode ↔ w.extractLsb' 28 4 = 0#4 ∨ 8#4 ≤ w.extractLsb' 28 4)

/-- 30 R83: the encoding examples, every one of them, both ways. -/
def Obligations.EncodingExamplesDecodeAsWritten : Prop :=
  decode 0x15580000#32 = .ok (.resolve 5 11) ∧ decode 0x19000000#32 = .ok (.resolve 9 0) ∧
  decode 0x10800000#32 = .ok (.resolve 0 16) ∧ decode 0x2558FFFF#32 = .ok (.setPixel 5 11 0xFFFF#16) ∧
  decode 0x20001234#32 = .ok (.setPixel 0 0 0x1234#16) ∧ decode 0x2878ABCD#32 = .ok (.setPixel 8 15 0xABCD#16) ∧
  decode 0x30000102#32 = .ok (.setAll 0x0102#16) ∧ decode 0x400100FF#32 = .ok (.setChipGroup 1 0x00FF#16) ∧
  decode 0x40030005#32 = .ok (.setChipGroup 3 5#16) ∧ decode 0x50000000#32 = .ok .serialize ∧
  decode 0x60000000#32 = .ok .send ∧ decode 0x70000000#32 = .ok .close ∧
  encode (.resolve 5 11) = 0x15580000#32 ∧ encode (.resolve 9 0) = 0x19000000#32 ∧
  encode (.resolve 0 16) = 0x10800000#32 ∧ encode (.setPixel 5 11 0xFFFF#16) = 0x2558FFFF#32 ∧
  encode (.setPixel 0 0 0x1234#16) = 0x20001234#32 ∧ encode (.setPixel 8 15 0xABCD#16) = 0x2878ABCD#32 ∧
  encode (.setAll 0x0102#16) = 0x30000102#32 ∧ encode (.setChipGroup 1 0x00FF#16) = 0x400100FF#32 ∧
  encode (.setChipGroup 3 5#16) = 0x40030005#32 ∧ encode .serialize = 0x50000000#32 ∧
  encode .send = 0x60000000#32 ∧ encode .close = 0x70000000#32

/-! ### The command port -/

/-- 30 R70, R79: in `CONNECTED`, with no command in progress, a step accepts the word on the command port and runs the command it
decodes to. What the step adds around `exec`: this step's `rst` sample is taken, an old response goes away, the word leaves the
port, and the command is the command in progress. -/
def Obligations.StepRunsTheDecodedCommand : Prop :=
  ∀ (s : State) (w : Word) (rest : List Word) (i : Instr),
    s.rstAsserted = false → s.state = .connected → s.cmd = none → s.cmdIn = w :: rest → decode w = .ok i →
      step s = exec i { s with rstIn := s.rstIn.tail, rsp := none, cmdIn := rest, cmd := some i }

/-- 30 R74: "A command with one of these OP values, accepted in `CONNECTED`, changes no state except `LAST_STATUS`. It completes
with STATUS = `ILLEGAL_COMMAND` (4) and every other response field 0." The input ports are no state of the block; the response is on its port. -/
def Obligations.ReservedOpcodeAnswersIllegalCommand : Prop :=
  ∀ (s : State) (w : Word) (rest : List Word),
    HiddenMatchesState s → s.rstAsserted = false → s.state = .connected → s.cmdIn = w :: rest →
    (w.extractLsb' 28 4 = 0#4 ∨ 8#4 ≤ w.extractLsb' 28 4) → ∃ t,
      step s = .next t ∧
      t = { s with rstIn := t.rstIn, cmdIn := t.cmdIn, rsp := some 0x40000000#32, lastStatus := .illegalCommand }

/-- 30 R75: a legal OP with a nonzero must-be-zero field behaves as rule R74. The must-be-zero fields are written here by the fields
of R71 and the zeros of R73: X, Y, CHIP, I. -/
def Obligations.NonzeroUnusedFieldAnswersIllegalCommand : Prop :=
  ∀ (s : State) (w : Word) (rest : List Word),
    HiddenMatchesState s → s.rstAsserted = false → s.state = .connected → s.cmdIn = w :: rest →
    (let op := (w.extractLsb' 28 4).toNat
     let xUsed := w.extractLsb' 24 4 ≠ 0#4
     let yUsed := w.extractLsb' 19 5 ≠ 0#5
     let chipUsed := w.extractLsb' 16 3 ≠ 0#3
     let iUsed := w.extractLsb' 0 16 ≠ 0#16
     (op = 1 ∧ (chipUsed ∨ iUsed)) ∨ (op = 2 ∧ chipUsed) ∨ (op = 3 ∧ (xUsed ∨ yUsed ∨ chipUsed)) ∨
       (op = 4 ∧ (xUsed ∨ yUsed)) ∨ ((op = 5 ∨ op = 6 ∨ op = 7) ∧ (xUsed ∨ yUsed ∨ chipUsed ∨ iUsed))) → ∃ t,
      step s = .next t ∧
      t = { s with rstIn := t.rstIn, cmdIn := t.cmdIn, rsp := some 0x40000000#32, lastStatus := .illegalCommand }

/-- 60 R204, 30 R79: in `FAILED` (and in `CLOSED`) the block takes no step of its own, and every accepted word, whatever it is,
answers `NOT_READY` and changes nothing but `LAST_STATUS`. -/
def Obligations.FailedAndClosedAnswerNotReady : Prop :=
  ∀ s : State, HiddenMatchesState s → s.rstAsserted = false → (s.state = .failed ∨ s.state = .closed) →
    (s.cmdIn = [] → ∃ t, step s = .next t ∧ t = { s with rstIn := t.rstIn, rsp := none }) ∧
    (∀ w rest, s.cmdIn = w :: rest → ∃ t, step s = .next t ∧
      t = { s with rstIn := t.rstIn, cmdIn := t.cmdIn, rsp := some 0x50000000#32, lastStatus := .notReady })

/-- 30 R70, 70 R235, 20 R55: a presented command leaves the port only in a step in which `cmd_ready` is 1 (and `rst` low); before
that it is held. These are the model's choice and no rule's: that the port is a held queue (log 5); that a step in which `rst` is
asserted accepts no command (log 16) and drops none that is presented (log 22). -/
def Obligations.CommandsAreHeldUntilReady : Prop :=
  ∀ s t : State, step s = .next t →
    t.cmdIn = if s.rstAsserted = false ∧ s.cmd = none ∧ (s.state = .connected ∨ s.state = .failed ∨ s.state = .closed)
      then s.cmdIn.tail else s.cmdIn

/-- 30 R70, R76, 20 R55: the response port carries a response in exactly the steps in which a command that was in progress, or that
this step accepted, is in progress no more; a reset abandons a command without a response (70 R230). -/
def Obligations.ResponseExactlyWhenACommandCompletes : Prop :=
  ∀ s t : State, HiddenMatchesState s → step s = .next t →
    (t.rsp.isSome = true ↔
      s.rstAsserted = false ∧ (s.cmd.isSome = true ∨ (s.cmdReady = true ∧ s.cmdIn ≠ [])) ∧ t.cmd = none)

/-- 10 R29, 30 R77: `LAST_STATUS` is written with the STATUS field of the response each time a command completes, and at no other
time but a reset, whose value is 0xF; the status port shows it at address 0x02. A response never carries `NONE` or a reserved
code. -/
def Obligations.LastStatusIsTheStatusOfTheResponse : Prop :=
  (∀ s t : State, s.rstAsserted = false → step s = .next t →
    (∀ w, t.rsp = some w → statusRead t 0x02#8 = (w.extractLsb' 28 4).setWidth 32 ∧ w.extractLsb' 28 4 < 7#4) ∧
    (t.rsp = none → t.lastStatus = s.lastStatus)) ∧
  (∀ c : Config, statusRead (State.resetWith c) 0x02#8 = 0xF#32)

/-! ### RESOLVE and the Pixel Buffer commands -/

/-- 40 R107: RESOLVE in range answers the slot of the cell, out of range `OUT_OF_RANGE`; it completes in every state it is run in,
and writes `LAST_STATUS` only (the hidden state of the command is dropped at the response). -/
def Obligations.ResolveAnswersTheSlotOrOutOfRange : Prop :=
  ∀ (s : State) (x y : Nat),
    (∀ (hx : x < 9) (hy : y < 16), ∃ w,
      exec (.resolve x y) s =
        .next { s with rsp := some w, lastStatus := .ok, cmd := none, snapshot := none, ack0 := none } ∧
      (let k := s.cfg.table.lookup ⟨x, hx⟩ ⟨y, hy⟩
       ResponseIs w 0 0 (k.chip.val * 48 + k.channel.val * 3 + k.color.val) k.chip.val k.channel.val k.color.val)) ∧
    (9 ≤ x ∨ 16 ≤ y →
      exec (.resolve x y) s = .next { s with
        rsp := some 0x10000000#32, lastStatus := .outOfRange, cmd := none, snapshot := none, ack0 := none })

/-- 41 R121, R124: SET_PIXEL in range writes the one entry of the cell's slot and answers the slot; out of range it writes no entry.
Everything else but `LAST_STATUS` is unchanged. -/
def Obligations.SetPixelWritesOneSlot : Prop :=
  ∀ (s : State) (x y : Nat) (v : Intensity),
    (∀ (hx : x < 9) (hy : y < 16), ∃ w t,
      exec (.setPixel x y v) s = .next t ∧
      t = { s with buf := t.buf, rsp := some w, lastStatus := .ok, cmd := none, snapshot := none, ack0 := none } ∧
      (let k := s.cfg.table.lookup ⟨x, hx⟩ ⟨y, hy⟩
       let i := k.chip.val * 48 + k.channel.val * 3 + k.color.val
       ResponseIs w 0 0 i k.chip.val k.channel.val k.color.val ∧
       ∀ j : Fin 144, t.buf[j] = if j.val = i then v else s.buf[j])) ∧
    (9 ≤ x ∨ 16 ≤ y →
      exec (.setPixel x y v) s = .next { s with
        rsp := some 0x10000000#32, lastStatus := .outOfRange, cmd := none, snapshot := none, ack0 := none })

/-- 41 R122: SET_ALL writes all 144 entries; everything else but `LAST_STATUS` is unchanged. -/
def Obligations.SetAllWritesEverySlot : Prop :=
  ∀ (s : State) (v : Intensity), ∃ t,
    exec (.setAll v) s = .next t ∧
    t = { s with
      buf := t.buf, rsp := some 0x00000000#32, lastStatus := .ok, cmd := none, snapshot := none, ack0 := none } ∧
    ∀ j : Fin 144, t.buf[j] = v

/-- 41 R123: SET_CHIP_GROUP writes the 48 entries of one chip, whatever the Address Table; with chipIndex ≥ 3 it answers
`INVALID_CHIP` and writes no entry and no log record. -/
def Obligations.SetChipGroupWritesOneChip : Prop :=
  ∀ (s : State) (k : Nat) (v : Intensity),
    (k < 3 → ∃ t,
      exec (.setChipGroup k v) s = .next t ∧
      t = { s with
        buf := t.buf, rsp := some 0x00000000#32, lastStatus := .ok, cmd := none, snapshot := none, ack0 := none } ∧
      ∀ j : Fin 144, t.buf[j] = if 48 * k ≤ j.val ∧ j.val ≤ 48 * k + 47 then v else s.buf[j]) ∧
    (3 ≤ k →
      exec (.setChipGroup k v) s = .next { s with
        rsp := some 0x20000000#32, lastStatus := .invalidChip, cmd := none, snapshot := none, ack0 := none })

/-- 20 R59: "SET_PIXEL, SET_ALL and SET_CHIP_GROUP are idempotent: doing one twice leaves the state of doing it once." -/
def Obligations.BufferCommandsAreIdempotent : Prop :=
  ∀ (s t : State) (i : Instr),
    ((∃ x y v, i = .setPixel x y v) ∨ (∃ v, i = .setAll v) ∨ (∃ k v, i = .setChipGroup k v)) →
    exec i s = .next t → exec i t = .next t

/-- 10 R23: the Pixel Buffer is written by SET_PIXEL, SET_ALL, SET_CHIP_GROUP, and by nothing else but a reset. -/
def Obligations.OnlyBufferCommandsWriteTheBuffer : Prop :=
  ∀ s t : State, step s = .next t → t.buf ≠ s.buf →
    s.rstAsserted = true ∨
    (s.state = .connected ∧ ∃ w rest i, s.cmdIn = w :: rest ∧ decode w = .ok i ∧
      ((∃ x y v, i = .setPixel x y v) ∨ (∃ v, i = .setAll v) ∨ (∃ k v, i = .setChipGroup k v)))

/-- 20 R52: the slot index is `chip·48 + channel·3 + colorLane`, and takes each value 0..143 exactly once; 20 R53 is its
inverse. -/
def Obligations.SlotIndexNumbersTheSlots : Prop :=
  (∀ k : Slot, k.index.val = k.chip.val * 48 + k.channel.val * 3 + k.color.val) ∧
  (∀ i : Fin 144, ∃ k : Slot, k.index = i ∧ ∀ k' : Slot, k'.index = i → k' = k) ∧
  (∀ (i : Fin 144) (k : Slot), k.index = i →
    k.chip.val = i.val / 48 ∧ k.channel.val = i.val % 48 / 3 ∧ k.color.val = i.val % 3)

/-! ### The Table Validator -/

/-- 40 R104, R102: the validator's loop computes the channel sums, and answers `Ok` exactly where each of them is 18. -/
def Obligations.ValidatorComputesTheChannelSums : Prop :=
  ∀ t : AddressTable,
    (∀ c : Fin 16, (validatorSums t)[c] = channelSum t c) ∧
    (tablePasses t → validate t = .ok (validatorSums t)) ∧
    (¬ tablePasses t → validate t = .checksumMismatch 18 (validatorSums t))

/-- 40 R102: the largest possible sum is 576, some table reaches it, and the 16-bit registers hold every sum. -/
def Obligations.ChannelSumsFitTheirRegisters : Prop :=
  (∀ (t : AddressTable) (c : Fin 16), channelSum t c ≤ 576) ∧
  (∃ (t : AddressTable) (c : Fin 16), channelSum t c = 576) ∧
  (∀ (t : AddressTable) (c : Fin 16), ((sumRegisters (validatorSums t))[c]).toNat = channelSum t c) ∧
  (∀ (t : AddressTable) (c : Fin 16),
    (∀ (x : Fin 9) (y : Fin 16), (t.lookup x y).channel ≠ c) → channelSum t c = 0)

/-- 40 R106, first fact: a table that maps the cells one to one onto the slots passes the validation. -/
def Obligations.BijectiveTablesPassValidation : Prop :=
  ∀ t : AddressTable,
    (∀ (x x' : Fin 9) (y y' : Fin 16), (t.lookup x y).index = (t.lookup x' y').index → x = x' ∧ y = y') →
    validate t = .ok (Vector.replicate 16 18)

/-- 40 R106, second fact: changing one cell from `(0, c, 1)` to `(1, c, 0)` changes no sum, so a passing table need not be a
bijection: the block does not detect the change. -/
def Obligations.SwappedCellIsNotDetected : Prop :=
  ∀ (t : AddressTable) (x : Fin 9) (y : Fin 16) (c : Fin 16),
    t.lookup x y = ⟨0, c, 1⟩ →
      (t.withCell x y ⟨1, c, 0⟩).lookup x y = ⟨1, c, 0⟩ ∧
      validate (t.withCell x y ⟨1, c, 0⟩) = validate t

/-- 40 R101, 00 R6, 43 R167: a raw configuration is admitted exactly where its table is well-formed and its bound is `none` or at
least 2, and then the admitted table has the raw entries. That the refusal comes before a run, as an error of the admission, is the
model's choice (log 3). -/
def Obligations.AdmissionIsExactlyWellFormedness : Prop :=
  ∀ r : RawConfig,
    ((∃ c, r.checked = .ok c) ↔
      (∀ x y, x < 9 → y < 16 → r.chipTbl x y ≤ 2 ∧ r.channelTbl x y ≤ 15 ∧ r.colorTbl x y ≤ 2) ∧
      (∀ n, r.maxReconnect = some n → 2 ≤ n)) ∧
    (∀ c, r.checked = .ok c → ∀ (x : Fin 9) (y : Fin 16),
      (c.table.lookup x y).chip.val = r.chipTbl x y ∧ (c.table.lookup x y).channel.val = r.channelTbl x y ∧
      (c.table.lookup x y).color.val = r.colorTbl x y)

/-- 40 R105: the VALIDATING step. -/
def Obligations.ValidatingStepReportsAndDecides : Prop :=
  ∀ s : State, HandleMatchesState s → FaultMatchesState s → HiddenMatchesState s →
    s.rstAsserted = false → s.state = .validating → ∃ t, step s = .next t ∧
      (∀ c : Fin 16, (t.chkSum[c]).toNat = channelSum s.cfg.table c) ∧
      (tablePasses s.cfg.table →
        t = { s with
          rstIn := s.rstIn.tail, rsp := none, chkSum := t.chkSum, chkStatus := .passed
          state := if s.cfg.initOrder = .validateFirst then .opening else .connected }) ∧
      (¬ tablePasses s.cfg.table →
        t = { s with
          rstIn := s.rstIn.tail, rsp := none, chkSum := t.chkSum, chkStatus := .failed
          logOut := s.logOut ++ [.checksumMismatch 18#16 t.chkSum]
          fault := .checksumMismatch
          txTrace := if s.cfg.initOrder = .openFirst then s.txTrace ++ [.closeReq] else s.txTrace
          handleOpen := false
          state := .failed })

/-! ### The Frame Serializer -/

/-- 20 R54: "Offset 0 holds the first sync byte and offset 1 the second. For each slot index `i`, offset `2 + 2·i` holds the high
byte of `buf[i]` and offset `3 + 2·i` holds its low byte"; "The last byte is at offset 289". -/
def Obligations.FrameLayout : Prop :=
  ∀ b : Vector Intensity 144,
    (frame b).length = 290 ∧ (frame b)[0]? = some 0x47#8 ∧ (frame b)[1]? = some 0x4F#8 ∧
    ∀ i : Fin 144, (frame b)[2 + 2 * i.val]? = some (b[i].extractLsb' 8 8) ∧
      (frame b)[3 + 2 * i.val]? = some (b[i].extractLsb' 0 8)

/-- 42 R143, R145: SERIALIZE with a sufficient capacity appends one record to `frame_out`, the frame of the buffer, and changes
nothing else but `LAST_STATUS`. -/
def Obligations.SerializePutsOutTheFrame : Prop :=
  ∀ s : State, 290 ≤ s.cfg.frameCapacity →
    exec .serialize s = .next { s with
      frameOut := s.frameOut ++ [frame s.buf]
      rsp := some 0x00000000#32, lastStatus := .ok, cmd := none, snapshot := none, ack0 := none }

/-- 42 R141, 60 R203: with a capacity below 290, SERIALIZE and the SENDING step log `BufferOverflow`, raise `BUFFER_OVERFLOW` and
answer `FAULTED`; no byte of the frame is put out or written, and a faulted SEND leaves `LAST_ACK` and the raw registers as they
were (10 R30, 92 D36). -/
def Obligations.OverflowFaultsAndPutsOutNothing : Prop :=
  ∀ s : State, HandleMatchesState s → FaultMatchesState s → HiddenMatchesState s →
    s.rstAsserted = false → s.cfg.frameCapacity < 290 →
    (∀ rest, s.state = .connected → s.cmdIn = 0x50000000#32 :: rest →
      step s = .next { s with
        rstIn := s.rstIn.tail, cmdIn := rest, logOut := s.logOut ++ [.bufferOverflow 290 s.cfg.frameCapacity]
        fault := .bufferOverflow, txTrace := s.txTrace ++ [.closeReq], handleOpen := false, state := .failed
        rsp := some 0x60000000#32, lastStatus := .faulted }) ∧
    (s.state = .sending →
      step s = .next { s with
        rstIn := s.rstIn.tail, logOut := s.logOut ++ [.bufferOverflow 290 s.cfg.frameCapacity]
        fault := .bufferOverflow, txTrace := s.txTrace ++ [.closeReq], handleOpen := false, state := .failed
        rsp := some 0x60000000#32, lastStatus := .faulted, cmd := none })

/-- 95 L1.4, 41 R124: no cross-talk between pixels: after SET_PIXEL in range, the two bytes of the cell's slot are the big-endian
encoding of the intensity, and every other byte of the frame is as before. -/
def Obligations.SetPixelHasNoCrossTalk : Prop :=
  ∀ (s t : State) (x : Fin 9) (y : Fin 16) (v : Intensity), exec (.setPixel x.val y.val v) s = .next t →
    (let i := (s.cfg.table.lookup x y).index.val
     (frame t.buf)[2 + 2 * i]? = some (v.extractLsb' 8 8) ∧ (frame t.buf)[3 + 2 * i]? = some (v.extractLsb' 0 8) ∧
     ∀ n : Nat, n ≠ 2 + 2 * i → n ≠ 3 + 2 * i → (frame t.buf)[n]? = (frame s.buf)[n]?)

/-! ### Construction -/

/-- 43 R163: the first step after reset; it writes nothing but `STATE`. -/
def Obligations.ConstructionStartsInItsOrder : Prop :=
  ∀ s : State, s.rstAsserted = false → s.state = .disconnected →
    step s = .next { s with
      rstIn := s.rstIn.tail, rsp := none
      state := if s.cfg.initOrder = .validateFirst then .validating else .opening }

/-- 43 R164, R168: the OPENING step, for either answer of the Transport. -/
def Obligations.OpeningStep : Prop :=
  ∀ s : State, HandleMatchesState s → FaultMatchesState s → HiddenMatchesState s →
    s.rstAsserted = false → s.state = .opening →
    (s.openAnswer = .error →
      ∃ t, step s = .next t ∧ t = { s with
        rstIn := t.rstIn, rsp := none
        txTrace := s.txTrace ++ [.openReq s.cfg.port s.cfg.baud .error]
        openIn := t.openIn, oracleIx := t.oracleIx
        logOut := s.logOut ++ [.portOpenFailed], fault := .portOpenFailed, state := .failed }) ∧
    (s.openAnswer = .ok →
      ∃ t, step s = .next t ∧ t = { s with
        rstIn := t.rstIn, rsp := none
        txTrace := s.txTrace ++ [.openReq s.cfg.port s.cfg.baud .ok]
        openIn := t.openIn, oracleIx := t.oracleIx
        handleOpen := true
        state := if s.cfg.resetOnStart = true then .resetting
          else if s.cfg.initOrder = .validateFirst then .connected else .validating })

/-- 43 R166: the RESETTING step, for either answer of the Transport. -/
def Obligations.ResettingStep : Prop :=
  ∀ s : State, HandleMatchesState s → FaultMatchesState s → HiddenMatchesState s →
    s.rstAsserted = false → s.state = .resetting →
    (s.writeAnswer = .error →
      ∃ t, step s = .next t ∧ t = { s with
        rstIn := t.rstIn, rsp := none
        txTrace := s.txTrace ++ [.writeReq [0x52#8, 0x54#8] .error, .closeReq]
        writeIn := t.writeIn, oracleIx := t.oracleIx
        logOut := s.logOut ++ [.resetWriteFailed], fault := .resetWriteFailed, handleOpen := false, state := .failed }) ∧
    (s.writeAnswer = .ok →
      ∃ t, step s = .next t ∧ t = { s with
        rstIn := t.rstIn, rsp := none
        txTrace := s.txTrace ++ [.writeReq [0x52#8, 0x54#8] .ok, .closeReq]
        writeIn := t.writeIn, oracleIx := t.oracleIx
        handleOpen := false, reconnectAttempts := 0#32, state := .reconnecting })

/-- 43 R167, R168, 10 R26: the RECONNECTING step, one attempt, for either answer of the Transport. The counter saturates. -/
def Obligations.ReconnectingStep : Prop :=
  ∀ s : State, HandleMatchesState s → FaultMatchesState s → HiddenMatchesState s →
    s.rstAsserted = false → s.state = .reconnecting → ∃ n : BitVec 32,
      n.toNat = min (s.reconnectAttempts.toNat + 1) 0xFFFFFFFF ∧
      (s.openAnswer = .ok → n = 1#32 →
        ∃ t, step s = .next t ∧ t = { s with
          rstIn := t.rstIn, rsp := none
          txTrace := s.txTrace ++ [.openReq s.cfg.port s.cfg.baud .ok, .closeReq]
          openIn := t.openIn, oracleIx := t.oracleIx, reconnectAttempts := n
          logOut := s.logOut ++ [.rebootFailed n], fault := .rebootFailed, state := .failed }) ∧
      (s.openAnswer = .ok → n ≠ 1#32 →
        ∃ t, step s = .next t ∧ t = { s with
          rstIn := t.rstIn, rsp := none
          txTrace := s.txTrace ++ [.openReq s.cfg.port s.cfg.baud .ok]
          openIn := t.openIn, oracleIx := t.oracleIx, reconnectAttempts := n
          handleOpen := true
          state := if s.cfg.initOrder = .validateFirst then .connected else .validating }) ∧
      (s.openAnswer = .error → (∃ m, s.cfg.maxReconnect = some m ∧ m.val ≤ n.toNat) →
        ∃ t, step s = .next t ∧ t = { s with
          rstIn := t.rstIn, rsp := none
          txTrace := s.txTrace ++ [.openReq s.cfg.port s.cfg.baud .error]
          openIn := t.openIn, oracleIx := t.oracleIx, reconnectAttempts := n
          logOut := s.logOut ++ [.reconnectExhausted n], fault := .reconnectExhausted, state := .failed }) ∧
      (s.openAnswer = .error → (∀ m, s.cfg.maxReconnect = some m → n.toNat < m.val) →
        ∃ t, step s = .next t ∧ t = { s with
          rstIn := t.rstIn, rsp := none
          txTrace := s.txTrace ++ [.openReq s.cfg.port s.cfg.baud .error]
          openIn := t.openIn, oracleIx := t.oracleIx, reconnectAttempts := n
          state := .reconnecting })

/-- 70 R233 without reset/reconnect: from reset, in either order, with a passing table and an open answered `Ok`, construction ends in
`CONNECTED` after three steps. -/
def Obligations.ConstructionWithoutResetConnects : Prop :=
  ∀ (c : Config) (opens : List TxResult) (cmds : List Word),
    tablePasses c.table → c.resetOnStart = false → ∃ t,
      runSteps 3 { State.resetWith c with openIn := .ok :: opens, cmdIn := cmds } = .next t ∧
      t.state = .connected ∧ t.handleOpen = true ∧ t.chkStatus = .passed ∧ t.fault = .none ∧
      t.lastStatus = .none ∧ t.cmdIn = cmds ∧ t.logOut = [] ∧ t.buf = Vector.replicate 144 0#16 ∧
      t.txTrace = [.openReq c.port c.baud .ok]

/-- 70 R233 with reset/reconnect: where `k ≥ 1` reopen attempts fail (fewer than the bound) and the next succeeds, construction ends
in `CONNECTED`, in either order, and the counter holds `k + 1` (saturated). -/
def Obligations.ConstructionWithResetConnects : Prop :=
  ∀ (c : Config) (k : Nat) (opens writes : List TxResult) (cmds : List Word),
    tablePasses c.table → c.resetOnStart = true → 1 ≤ k → (∀ m, c.maxReconnect = some m → k < m.val) → ∃ t,
      runSteps (k + 5)
        { State.resetWith c with
          openIn := .ok :: (List.replicate k .error ++ .ok :: opens), writeIn := .ok :: writes, cmdIn := cmds } = .next t ∧
      t.state = .connected ∧ t.handleOpen = true ∧ t.chkStatus = .passed ∧ t.fault = .none ∧
      t.lastStatus = .none ∧ t.cmdIn = cmds ∧ t.logOut = [] ∧
      t.reconnectAttempts.toNat = min (k + 1) 0xFFFFFFFF ∧
      t.txTrace =
        [.openReq c.port c.baud .ok, .writeReq [0x52#8, 0x54#8] .ok, .closeReq] ++
          List.replicate k (.openReq c.port c.baud .error) ++ [.openReq c.port c.baud .ok]

/-- 43 R169: with no bound, a Transport that answers `Error` to every open keeps the block in `RECONNECTING`: for every number of
steps, no command is accepted and no response is made. -/
def Obligations.UnboundedReconnectNeverEnds : Prop :=
  ∀ (n : Nat) (s : State) (opens : List TxResult),
    s.state = .reconnecting → s.cfg.maxReconnect = none → s.rstIn = [] →
    s.openIn = List.replicate n .error ++ opens → ∃ t,
      runSteps n s = .next t ∧ t.state = .reconnecting ∧ t.cmdIn = s.cmdIn ∧ (0 < n → t.rsp = none) ∧
      t.reconnectAttempts.toNat = min (s.reconnectAttempts.toNat + n) (max s.reconnectAttempts.toNat 0xFFFFFFFF) ∧
      t.openIn = opens ∧ t.logOut = s.logOut

/-- 43 R167, 70 R238: with a bound `m` that the 32-bit counter can reach, `RECONNECTING` is left after at most `m` attempts,
whatever the Transport answers (the free values included). -/
def Obligations.BoundedReconnectEnds : Prop :=
  ∀ (s : State) (m : { n : Nat // 2 ≤ n }),
    s.state = .reconnecting → s.cfg.maxReconnect = some m → m.val ≤ 0xFFFFFFFF → (∀ b ∈ s.rstIn, b = .low) →
    ∃ k t, 1 ≤ k ∧ k ≤ m.val ∧ runSteps k s = .next t ∧ t.state ≠ .reconnecting

/-! ### SEND and CLOSE -/

/-- 43 R171, R172: SEND is accepted in one step, whose effect is `state <- SENDING`; the SENDING step, with a sufficient capacity and
for either answer of the Transport, makes one write of the whole frame. -/
def Obligations.SendIsAcceptedAndWritesTheFrame : Prop :=
  (∀ s : State, exec .send s = .next { s with state := .sending }) ∧
  ∀ s : State, s.rstAsserted = false → s.state = .sending → 290 ≤ s.cfg.frameCapacity →
    (s.writeAnswer = .error →
      step s = .next { s with
        rstIn := s.rstIn.tail, ackRaw0 := 0#10, ackRaw1 := 0#10, lastAck := .none
        txTrace := s.txTrace ++ [.writeReq (frame s.buf) .error]
        writeIn := s.writeIn.tail, oracleIx := s.oracleIx + 1
        logOut := s.logOut ++ [.writeError], state := .connected
        rsp := some 0x30000000#32, lastStatus := .writeError, cmd := none, snapshot := none, ack0 := none }) ∧
    (s.writeAnswer = .ok →
      step s = .next { s with
        rstIn := s.rstIn.tail, rsp := none, ackRaw0 := 0#10, ackRaw1 := 0#10
        txTrace := s.txTrace ++ [.writeReq (frame s.buf) .ok]
        writeIn := s.writeIn.tail, oracleIx := s.oracleIx + 1
        snapshot := some (frame s.buf), state := .awaitingAck })

/-- 43 R173, R175: the two AWAITING_ACK steps. The second read is made whatever the first returned, and no acknowledgment outcome
raises a fault or makes STATUS other than `OK`. -/
def Obligations.AwaitingAckSteps : Prop :=
  (∀ b : Byte, kindAndByte (.byte b) = 0x100#10 ||| b.setWidth 10) ∧ kindAndByte .timeout = 0x200#10 ∧
  kindAndByte .error = 0x300#10 ∧
  ∀ s : State, s.rstAsserted = false → s.state = .awaitingAck →
    (s.ack0 = none →
      ∃ t, step s = .next t ∧ t = { s with
        rstIn := t.rstIn, rsp := none
        txTrace := s.txTrace ++ [.readReq 90 s.readAnswer], readIn := t.readIn, oracleIx := t.oracleIx
        ackRaw0 := kindAndByte s.readAnswer, ack0 := some s.readAnswer }) ∧
    (∀ a0, s.ack0 = some a0 → ∃ w t,
      step s = .next t ∧ t = { s with
        rstIn := t.rstIn
        txTrace := s.txTrace ++ [.readReq 10 s.readAnswer], readIn := t.readIn, oracleIx := t.oracleIx
        ackRaw1 := kindAndByte s.readAnswer, lastAck := classify a0 s.readAnswer
        logOut := s.logOut ++
          (match classify a0 s.readAnswer with
            | .none => []
            | .ok => []
            | .timeout => [.ackTimeout s.ackRaw0 (kindAndByte s.readAnswer)]
            | .readError => [.ackReadError s.ackRaw0 (kindAndByte s.readAnswer)]
            | .mismatch => [.ackMismatch s.ackRaw0 (kindAndByte s.readAnswer)])
        state := .connected, rsp := some w, lastStatus := .ok, cmd := none, snapshot := none, ack0 := none } ∧
      ResponseIs w 0 (classify a0 s.readAnswer).code.toNat 0 0 0 0)

/-- 43 R174: the classification of two read results, with the bytes `'D'` = 0x44 and `'N'` = 0x4E, exact and ordered; an error
of either read comes before a timeout of either. -/
def Obligations.AcknowledgmentClassification : Prop :=
  (∀ a, classify .error a = .readError ∧ classify a .error = .readError) ∧
  (∀ a, a ≠ .error → classify .timeout a = .timeout ∧ classify a .timeout = .timeout) ∧
  classify (.byte 0x44#8) (.byte 0x4E#8) = .ok ∧
  (∀ b0 b1 : Byte, ¬ (b0 = 0x44#8 ∧ b1 = 0x4E#8) → classify (.byte b0) (.byte b1) = .mismatch)

/-- 43 R171 to R176: the whole of a SEND whose write is answered `Ok`, from its presentation to its response: four steps, three
Transport requests in their order, the response `OK` with the class, the buffer unchanged, and the block back in `CONNECTED`. -/
def Obligations.SendRoundTrip : Prop :=
  ∀ (s : State) (cmds : List Word) (writes : List TxResult) (a0 a1 : ReadAnswer) (reads : List ReadAnswer),
    s.state = .connected → s.cmd = none → s.ack0 = none → s.rstIn = [] → 290 ≤ s.cfg.frameCapacity →
    s.cmdIn = 0x60000000#32 :: cmds → s.writeIn = .ok :: writes → s.readIn = a0 :: a1 :: reads → ∃ t w,
      runSteps 4 s = .next t ∧ t.rsp = some w ∧ ResponseIs w 0 (classify a0 a1).code.toNat 0 0 0 0 ∧
      t.state = .connected ∧ t.lastStatus = .ok ∧ t.lastAck = classify a0 a1 ∧
      t.ackRaw0 = kindAndByte a0 ∧ t.ackRaw1 = kindAndByte a1 ∧ t.buf = s.buf ∧ t.frameOut = s.frameOut ∧
      t.fault = s.fault ∧ t.handleOpen = s.handleOpen ∧ t.cmd = none ∧ t.snapshot = none ∧ t.ack0 = none ∧
      t.cmdIn = cmds ∧ t.writeIn = writes ∧ t.readIn = reads ∧
      t.txTrace = s.txTrace ++ [.writeReq (frame s.buf) .ok, .readReq 90 a0, .readReq 10 a1] ∧
      t.logOut = s.logOut ++
        (match classify a0 a1 with
          | .none => []
          | .ok => []
          | .timeout => [.ackTimeout (kindAndByte a0) (kindAndByte a1)]
          | .readError => [.ackReadError (kindAndByte a0) (kindAndByte a1)]
          | .mismatch => [.ackMismatch (kindAndByte a0) (kindAndByte a1)])

/-- 43 R180: CLOSE makes one `TxClose`, clears `HANDLE_OPEN`, enters `CLOSED` and answers `OK`; the buffer keeps its contents. -/
def Obligations.CloseReleasesTheHandle : Prop :=
  ∀ s : State,
    exec .close s = .next { s with
      txTrace := s.txTrace ++ [.closeReq], handleOpen := false, state := .closed
      rsp := some 0x00000000#32, lastStatus := .ok, cmd := none, snapshot := none, ack0 := none }

/-! ### The state machine as a whole -/

/-- 43 R162: "No other transition exists": every step goes along a row of the transition table. -/
def Obligations.StepsFollowTheTransitionTable : Prop :=
  ∀ s t : State, step s = .next t →
    if s.rstAsserted = true then t.state = .disconnected else mayGo s.cfg s.state t.state = true

/-- 43 R162, the invariant after the table: `HANDLE_OPEN` is 1 exactly in the states it names. Every step keeps it. -/
def Obligations.StepKeepsHandleInvariant : Prop :=
  ∀ s t : State, HandleMatchesState s → step s = .next t → HandleMatchesState t

/-- 10 R28, 60 R203: `FAULT` is nonzero exactly in `FAILED`. Every step keeps it. -/
def Obligations.StepKeepsFaultInvariant : Prop :=
  ∀ s t : State, FaultMatchesState s → step s = .next t → FaultMatchesState t

/-- 10 R37, 20 R58, 42 R144: the hidden state stands exactly while a SEND runs, and the snapshot equals the frame of the buffer
throughout. Every step keeps it. For a step of `rst` this rests on the model's inference that the hidden state is empty after a reset
(log 19): the table of 70 R231 does not list it. -/
def Obligations.StepKeepsHiddenStateInvariant : Prop :=
  ∀ s t : State, HiddenMatchesState s → step s = .next t → HiddenMatchesState t

/-- 40 R105, 10 R32, R34, 43 R168: the validation report belongs to the table, and the block is in a state in which a frame can be
sent only after the table has passed. Every step keeps it. -/
def Obligations.StepKeepsValidationInvariant : Prop :=
  ∀ s t : State, ReportMatchesTable s → ValidatedInOrder s → step s = .next t → ReportMatchesTable t ∧ ValidatedInOrder t

/-- 43 R160, 20 R60, R62, 70 R232: the exchange on the Transport port is legal and stands where the state says; after a reset an open
handle is closed before anything else. Every step keeps it. (The mark of a reset in the record is the model's, log 23.) -/
def Obligations.StepKeepsLegalExchange : Prop :=
  ∀ s t : State, HandleMatchesState s → HiddenMatchesState s → ExchangeIsLegal s → step s = .next t → ExchangeIsLegal t

/-- All the invariants hold after reset, in every configuration. The clause about the hidden state rests on the model's inference that
it is empty after a reset (log 19): the table of 70 R231 does not list it. -/
def Obligations.ResetMeetsTheInvariants : Prop :=
  ∀ c : Config, Inv (State.resetWith c)

/-- 20 R62, 70 R232: what a step writes: the reset command in `RESETTING`, or the frame of the buffer in `SENDING`, or nothing; a
write that a reset leaves without an answer counts (its mark in the record is the model's, log 23). -/
def Obligations.WritesAreTheResetCommandAndFrames : Prop :=
  ∀ s t : State, step s = .next t →
    writesOf t.txTrace = writesOf s.txTrace ∨
    (s.state = .resetting ∧ writesOf t.txTrace = writesOf s.txTrace ++ [[0x52#8, 0x54#8]]) ∨
    (s.state = .sending ∧ 290 ≤ s.cfg.frameCapacity ∧ writesOf t.txTrace = writesOf s.txTrace ++ [frame s.buf])

/-- 43 R161, 20 R62, 70 R232, 93 I4: what the wire may hold, and nothing else. Where every write was answered `Ok` and no reset
came, it holds exactly the written bytes in their order, and after one more write that failed, these and some prefix of its bytes.
Then for every record, with failed writes and resets anywhere in it: a write answered `Ok` adds all its bytes, a failed one and one
that a reset left without an answer add some prefix; where a reset comes in `AWAITING_ACK`, before the first read ends or before
the second does, some prefix of the frame is on the wire; no other event adds or takes a byte. (The form of the record, with its
marks of resets, is the model's, logs 8, 10 and 23.) -/
def Obligations.WireHoldsTheWrittenBytes : Prop :=
  (∀ trace : List TxEvent, (∀ bytes, .writeReq bytes .error ∉ trace) → (∀ r, .rst r ∉ trace) →
    (∀ wire, mayBeOnWire trace wire ↔ wire = (writesOf trace).flatten) ∧
    (∀ bytes wire, mayBeOnWire (trace ++ [.writeReq bytes .error]) wire ↔
      ∃ n, wire = (writesOf trace).flatten ++ bytes.take n)) ∧
  (∀ (trace : List TxEvent) (bytes wire : List Byte),
    (mayBeOnWire (trace ++ [.writeReq bytes .ok]) wire ↔ ∃ before, mayBeOnWire trace before ∧ wire = before ++ bytes) ∧
    (mayBeOnWire (trace ++ [.writeReq bytes .error]) wire ↔
      ∃ before n, mayBeOnWire trace before ∧ wire = before ++ bytes.take n) ∧
    (mayBeOnWire (trace ++ [.rst (some (.txWrite bytes))]) wire ↔
      ∃ before n, mayBeOnWire trace before ∧ wire = before ++ bytes.take n) ∧
    (∀ r, r = none ∨ (∃ ms, r = some (.txRead ms)) →
      (mayBeOnWire (trace ++ [.writeReq bytes .ok, .rst r]) wire ↔
        ∃ before n, mayBeOnWire trace before ∧ wire = before ++ bytes.take n) ∧
      (∀ ms a, mayBeOnWire (trace ++ [.writeReq bytes .ok, .readReq ms a, .rst r]) wire ↔
        ∃ before n, mayBeOnWire trace before ∧ wire = before ++ bytes.take n))) ∧
  (∀ (trace : List TxEvent) (e : TxEvent) (wire : List Byte), writesOf [e] = [] →
    (∀ r, e = .rst r → ∀ more bytes, trace ≠ more ++ [.writeReq bytes .ok] ∧
      ∀ ms a, trace ≠ more ++ [.writeReq bytes .ok, .readReq ms a]) →
    (mayBeOnWire (trace ++ [e]) wire ↔ mayBeOnWire trace wire))

/-- 70 R242: in `DISCONNECTED`, `VALIDATING`, `OPENING`, `RESETTING`, `RECONNECTING`, `SENDING` and `AWAITING_ACK` a step always
goes on (to another state, or by an answered request); where the run is over and nothing is presented, nothing changes. -/
def Obligations.PendingStatesGoOnAndFinishedOnesStay : Prop :=
  ∀ s t : State, s.rstAsserted = false → step s = .next t →
    (s.state ≠ .connected → s.isOver = false → t.state ≠ s.state ∨ s.txTrace.length < t.txTrace.length) ∧
    (s.isOver = true → s.cmdIn = [] → t = { s with rstIn := s.rstIn.tail, rsp := none })

/-! ### Faults, the log, the status port, reset -/

/-- 60 R203: fault entry, in its order; the first fault is kept. -/
def Obligations.FaultEntry : Prop :=
  ∀ (s : State) (code : FaultCode),
    (∀ i, s.cmd = some i → s.raiseFault code = { s with
      fault := if s.fault = .none then code else s.fault
      txTrace := if s.handleOpen = true then s.txTrace ++ [.closeReq] else s.txTrace
      handleOpen := false, state := .failed
      rsp := some 0x60000000#32, lastStatus := .faulted, cmd := none, snapshot := none, ack0 := none }) ∧
    (s.cmd = none → s.raiseFault code = { s with
      fault := if s.fault = .none then code else s.fault
      txTrace := if s.handleOpen = true then s.txTrace ++ [.closeReq] else s.txTrace
      handleOpen := false, state := .failed })

/-- 10 R28, 60 R204: once `FAULT` is nonzero no step writes it again until reset, it is written only on the way to `FAILED`, and only
`rst` leaves `FAILED`. -/
def Obligations.FirstFaultIsKeptUntilReset : Prop :=
  ∀ s t : State, s.rstAsserted = false → step s = .next t →
    (s.fault ≠ .none → t.fault = s.fault) ∧ (t.fault ≠ s.fault → t.state = .failed) ∧
    (s.state = .failed → t.state = .failed)

/-- 60 R210: a step appends at most one record to the log, and each kind of record comes from the step that the table names. -/
def Obligations.LogRecordsComeFromTheirSteps : Prop :=
  ∀ s t : State, s.rstAsserted = false → step s = .next t →
    t.logOut = s.logOut ∨ ∃ e, t.logOut = s.logOut ++ [e] ∧
      ((e.code = 0x01#8 ∧ s.state = .validating) ∨ (e.code = 0x02#8 ∧ s.state = .opening) ∨
       (e.code = 0x03#8 ∧ s.state = .resetting) ∨ ((e.code = 0x04#8 ∨ e.code = 0x05#8) ∧ s.state = .reconnecting) ∨
       (e.code = 0x06#8 ∧ (s.state = .connected ∨ s.state = .sending)) ∨ (e.code = 0x07#8 ∧ s.state = .sending) ∨
       ((e.code = 0x08#8 ∨ e.code = 0x09#8 ∨ e.code = 0x0A#8) ∧ s.state = .awaitingAck))

/-- 10 R30, R31, R35: `LAST_ACK`, `ACK_RAW0` and `ACK_RAW1` are written only in the SENDING and AWAITING_ACK steps of a SEND (and by
a reset), and `RECONNECT_ATTEMPTS` (10 R26) only in RESETTING and RECONNECTING. -/
def Obligations.OutcomeRegistersAreWrittenOnlyByTheirSteps : Prop :=
  ∀ s t : State, s.rstAsserted = false → step s = .next t →
    (s.state ≠ .sending → s.state ≠ .awaitingAck →
      t.lastAck = s.lastAck ∧ t.ackRaw0 = s.ackRaw0 ∧ t.ackRaw1 = s.ackRaw1) ∧
    (s.state ≠ .validating → t.chkStatus = s.chkStatus ∧ t.chkSum = s.chkSum) ∧
    (s.state ≠ .resetting → s.state ≠ .reconnecting → t.reconnectAttempts = s.reconnectAttempts)

/-- 10 R27, with the codes of 10 R22, 60 R202, 30 R77, R78, 10 R32, R33: the map of the status port, the unused bits, and the
addresses not in the map. -/
def Obligations.StatusReadMap : Prop :=
  ∀ s : State,
    statusRead s 0x00#8 = (match s.state with
      | .disconnected => 0#32 | .validating => 1#32 | .opening => 2#32 | .resetting => 3#32 | .reconnecting => 4#32
      | .connected => 5#32 | .sending => 6#32 | .awaitingAck => 7#32 | .failed => 8#32 | .closed => 9#32) ∧
    statusRead s 0x01#8 = (match s.fault with
      | .none => 0#32 | .portOpenFailed => 1#32 | .rebootFailed => 2#32 | .checksumMismatch => 3#32
      | .bufferOverflow => 4#32 | .resetWriteFailed => 5#32 | .reconnectExhausted => 6#32) ∧
    statusRead s 0x02#8 = (match s.lastStatus with
      | .ok => 0#32 | .outOfRange => 1#32 | .invalidChip => 2#32 | .writeError => 3#32 | .illegalCommand => 4#32
      | .notReady => 5#32 | .faulted => 6#32 | .none => 15#32) ∧
    statusRead s 0x03#8 = (match s.lastAck with
      | .none => 0#32 | .ok => 1#32 | .timeout => 2#32 | .readError => 3#32 | .mismatch => 4#32) ∧
    (statusRead s 0x04#8).toNat = s.ackRaw0.toNat ∧ (statusRead s 0x05#8).toNat = s.ackRaw1.toNat ∧
    statusRead s 0x06#8 = (match s.chkStatus with
      | .notRun => 0#32 | .passed => 1#32 | .failed => 2#32) ∧
    statusRead s 0x07#8 = 18#32 ∧ statusRead s 0x08#8 = s.reconnectAttempts ∧
    statusRead s 0x09#8 = (if s.handleOpen = true then 1#32 else 0#32) ∧
    (∀ c : Fin 16, (statusRead s (BitVec.ofNat 8 (0x10 + c.val))).toNat = (s.chkSum[c]).toNat) ∧
    (∀ a : BitVec 8, (0x0A#8 ≤ a ∧ a < 0x10#8) ∨ 0x20#8 ≤ a → statusRead s a = 0#32)

/-- 70 R230 to R232: `rst` in any state closes an open handle first, sets every piece of state to its reset value and abandons a
command in progress without a response; in `SENDING` the write of the frame may be outstanding, as may the request of any other
step that makes one. These are the model's choice and no rule's: that the step of `rst` is nothing but the reset (log 16); that
the hidden state is empty after it (log 19); that the inputs and the record of the Transport port outlast it (logs 8 and 22) and
`oracleIx` is kept (log 21); the mark of a reset in that record, with the request it left without an answer (log 23). -/
def Obligations.ResetFromAnyState : Prop :=
  ∀ s : State, s.rstAsserted = true → ∃ r : Option TxRequest,
    (s.rstIn.head? = some .asserted → r = none) ∧
    (s.rstIn.head? = some .duringRequest → r = match s.state with
      | .opening => some (.txOpen s.cfg.port s.cfg.baud)
      | .reconnecting => some (.txOpen s.cfg.port s.cfg.baud)
      | .resetting => some (.txWrite [0x52#8, 0x54#8])
      | .sending => if 290 ≤ s.cfg.frameCapacity then some (.txWrite (frame s.buf)) else none
      | .awaitingAck => if s.ack0 = none then some (.txRead 90) else some (.txRead 10)
      | .disconnected => none
      | .validating => none
      | .connected => none
      | .failed => none
      | .closed => none) ∧
    step s = .next { State.resetWith s.cfg with
      txTrace := s.txTrace ++ .rst r :: (if s.handleOpen = true then [.closeReq] else [])
      rstIn := s.rstIn.tail, cmdIn := s.cmdIn, openIn := s.openIn, writeIn := s.writeIn, readIn := s.readIn
      oracleIx := s.oracleIx }

/-- 70 R231: the reset values, in every configuration. -/
def Obligations.ResetValues : Prop :=
  ∀ c : Config,
    (∀ i : Fin 144, (State.resetWith c).buf[i] = 0#16) ∧
    (∀ a : BitVec 8, statusRead (State.resetWith c) a =
      if a = 0x02#8 then 0xF#32 else if a = 0x07#8 then 18#32 else 0#32) ∧
    (State.resetWith c).state = .disconnected ∧ (State.resetWith c).cmdReady = false ∧
    (State.resetWith c).frameOut = [] ∧ (State.resetWith c).logOut = [] ∧ (State.resetWith c).cfg.table = c.table

/-- 10 R38, 20 R65, 10 R24: the configuration, the Address Table with it, is written by no step and no reset. That every step answers a
next state is the model's inference, said by no one of these rules (log 20), and that the configuration is a field of the state is
its choice (log 1). -/
def Obligations.EveryStepGoesOnAndKeepsTheConfiguration : Prop :=
  ∀ s : State, ∃ t, step s = .next t ∧ t.cfg = s.cfg

/-- 10 R35: no step reads the outcome fields to decide what it does: two states that differ only in `FAULT`, `LAST_STATUS`,
`LAST_ACK`, `ACK_RAW0`, `ACK_RAW1`, `CHK_STATUS`, `CHK_SUM` and the log step to two states that differ only there. -/
def Obligations.OutcomeFieldsDecideNothing : Prop :=
  ∀ s t s' t' : State,
    t = { s with
      fault := t.fault, lastStatus := t.lastStatus, lastAck := t.lastAck, ackRaw0 := t.ackRaw0, ackRaw1 := t.ackRaw1
      chkStatus := t.chkStatus, chkSum := t.chkSum, logOut := t.logOut } →
    step s = .next s' → step t = .next t' →
    t' = { s' with
      fault := t'.fault, lastStatus := t'.lastStatus, lastAck := t'.lastAck, ackRaw0 := t'.ackRaw0, ackRaw1 := t'.ackRaw1
      chkStatus := t'.chkStatus, chkSum := t'.chkSum, logOut := t'.logOut }
end

