-- ==== Sys2Proof/Laws/Decode.lean ====
section
/-! SUPPORT. The command word as a number: the packed word and its fields (30 R71), and a masked word (30 R75). -/

namespace Sys2Proof

/-- Appending bits is multiplying and adding. -/
theorem toNat_append_add {m n : Nat} (x : BitVec m) (y : BitVec n) : (x ++ y).toNat = x.toNat * 2 ^ n + y.toNat := by
  rw [BitVec.toNat_append, ← Nat.shiftLeft_add_eq_or_of_lt y.isLt, Nat.shiftLeft_eq]

/-- The packed command word as a number. -/
theorem packCommand_toNat (op x y chip : Nat) (v : Intensity) :
    (packCommand op x y chip v).toNat =
      op % 16 * 2 ^ 28 + x % 16 * 2 ^ 24 + y % 32 * 2 ^ 19 + chip % 8 * 2 ^ 16 + v.toNat := by
  have h : (packCommand op x y chip v).toNat = (BitVec.ofNat 4 op).toNat * 2 ^ (5 + 3 + 16 + 4) +
      ((BitVec.ofNat 4 x).toNat * 2 ^ (5 + 3 + 16) + ((BitVec.ofNat 5 y).toNat * 2 ^ (3 + 16) +
        ((BitVec.ofNat 3 chip).toNat * 2 ^ 16 + v.toNat))) := by
    unfold packCommand
    simp only [toNat_append_add]
  rw [h]
  simp only [BitVec.toNat_ofNat]
  omega

/-- A field of a word, as a number. -/
theorem extract_toNat (w : Word) (lo n : Nat) : (w.extractLsb' lo n).toNat = w.toNat / 2 ^ lo % 2 ^ n := by
  rw [BitVec.extractLsb'_toNat, Nat.shiftRight_eq_div_pow]

theorem opField_eq (w : Word) : opField w = w.toNat / 2 ^ 28 % 16 := extract_toNat w 28 4
theorem xField_eq (w : Word) : xField w = w.toNat / 2 ^ 24 % 16 := extract_toNat w 24 4
theorem yField_eq (w : Word) : yField w = w.toNat / 2 ^ 19 % 32 := extract_toNat w 19 5
theorem chipField_eq (w : Word) : chipField w = w.toNat / 2 ^ 16 % 8 := extract_toNat w 16 3
theorem intensityField_toNat (w : Word) : (intensityField w).toNat = w.toNat % 2 ^ 16 := by
  simp [intensityField]

/-- Masking with `n` ones from bit `k` on keeps that field in its place. -/
theorem and_ones_shifted (a n k : Nat) : a &&& ((2 ^ n - 1) <<< k) = (a / 2 ^ k % 2 ^ n) <<< k := by
  apply Nat.eq_of_testBit_eq
  intro i
  rw [← Nat.shiftRight_eq_div_pow]
  simp only [Nat.testBit_and, Nat.testBit_shiftLeft, Nat.testBit_mod_two_pow, Nat.testBit_shiftRight,
    Nat.testBit_two_pow_sub_one]
  by_cases h : k ≤ i
  · have h' : k + (i - k) = i := by omega
    simp [h, h', Bool.and_comm]
  · simp [h]

/-- A word masked with `n` ones from bit `k` on is zero exactly where that field is. -/
theorem masked_eq_zero_iff (w mask : Word) (n k : Nat) (h : mask.toNat = (2 ^ n - 1) <<< k) :
    w &&& mask = 0#32 ↔ w.toNat / 2 ^ k % 2 ^ n = 0 := by
  rw [← BitVec.toNat_inj, BitVec.toNat_and, h, and_ones_shifted, Nat.shiftLeft_eq]
  simp

/-- `decode` by the number of the word: the opcode, then the must-be-zero fields, then the operands. -/
theorem decode_eq (w : Word) :
    decode w =
      match opField w with
      | 1 => if w.toNat % 2 ^ 19 = 0 then .ok (.resolve (xField w) (yField w)) else .error .mustBeZero
      | 2 => if w.toNat / 2 ^ 16 % 2 ^ 3 = 0 then .ok (.setPixel (xField w) (yField w) (intensityField w))
        else .error .mustBeZero
      | 3 => if w.toNat / 2 ^ 16 % 2 ^ 12 = 0 then .ok (.setAll (intensityField w)) else .error .mustBeZero
      | 4 => if w.toNat / 2 ^ 19 % 2 ^ 9 = 0 then .ok (.setChipGroup (chipField w) (intensityField w))
        else .error .mustBeZero
      | 5 => if w.toNat % 2 ^ 28 = 0 then .ok .serialize else .error .mustBeZero
      | 6 => if w.toNat % 2 ^ 28 = 0 then .ok .send else .error .mustBeZero
      | 7 => if w.toNat % 2 ^ 28 = 0 then .ok .close else .error .mustBeZero
      | _ => .error .reservedOpcode := by
  have m1 := masked_eq_zero_iff w 0x0007FFFF#32 19 0 (by decide)
  have m2 := masked_eq_zero_iff w 0x00070000#32 3 16 (by decide)
  have m3 := masked_eq_zero_iff w 0x0FFF0000#32 12 16 (by decide)
  have m4 := masked_eq_zero_iff w 0x0FF80000#32 9 19 (by decide)
  have m5 := masked_eq_zero_iff w 0x0FFFFFFF#32 28 0 (by decide)
  rw [Nat.pow_zero, Nat.div_one] at m1 m5
  have h := opField_eq w
  have hlt : opField w < 16 := by omega
  unfold decode commandOf
  generalize opField w = op at *
  interval_cases op <;> simp only [mbzMask, m1, m2, m3, m4, m5]

end Sys2Proof
end

