-- ==== Sys2Proof/Laws/State.lean ====
section
/-! SUPPORT. One lemma for each field of the state and each operation on it, true by unfolding: later proofs cite these and do not
unfold a record update. -/

namespace Sys2Proof.Machine

/-! ### writeSlot -/

section
variable (s : State)

@[simp] theorem State.writeSlot_cfg (i : Fin 144) (v : Intensity) : (s.writeSlot i v).cfg = s.cfg := rfl
@[simp] theorem State.writeSlot_buf (i : Fin 144) (v : Intensity) : (s.writeSlot i v).buf = s.buf.set i v := rfl
@[simp] theorem State.writeSlot_state (i : Fin 144) (v : Intensity) : (s.writeSlot i v).state = s.state := rfl
@[simp] theorem State.writeSlot_handleOpen (i : Fin 144) (v : Intensity) : (s.writeSlot i v).handleOpen = s.handleOpen := rfl
@[simp] theorem State.writeSlot_reconnectAttempts (i : Fin 144) (v : Intensity) : (s.writeSlot i v).reconnectAttempts = s.reconnectAttempts := rfl
@[simp] theorem State.writeSlot_fault (i : Fin 144) (v : Intensity) : (s.writeSlot i v).fault = s.fault := rfl
@[simp] theorem State.writeSlot_lastStatus (i : Fin 144) (v : Intensity) : (s.writeSlot i v).lastStatus = s.lastStatus := rfl
@[simp] theorem State.writeSlot_lastAck (i : Fin 144) (v : Intensity) : (s.writeSlot i v).lastAck = s.lastAck := rfl
@[simp] theorem State.writeSlot_ackRaw0 (i : Fin 144) (v : Intensity) : (s.writeSlot i v).ackRaw0 = s.ackRaw0 := rfl
@[simp] theorem State.writeSlot_ackRaw1 (i : Fin 144) (v : Intensity) : (s.writeSlot i v).ackRaw1 = s.ackRaw1 := rfl
@[simp] theorem State.writeSlot_chkStatus (i : Fin 144) (v : Intensity) : (s.writeSlot i v).chkStatus = s.chkStatus := rfl
@[simp] theorem State.writeSlot_chkSum (i : Fin 144) (v : Intensity) : (s.writeSlot i v).chkSum = s.chkSum := rfl
@[simp] theorem State.writeSlot_cmd (i : Fin 144) (v : Intensity) : (s.writeSlot i v).cmd = s.cmd := rfl
@[simp] theorem State.writeSlot_snapshot (i : Fin 144) (v : Intensity) : (s.writeSlot i v).snapshot = s.snapshot := rfl
@[simp] theorem State.writeSlot_ack0 (i : Fin 144) (v : Intensity) : (s.writeSlot i v).ack0 = s.ack0 := rfl
@[simp] theorem State.writeSlot_rsp (i : Fin 144) (v : Intensity) : (s.writeSlot i v).rsp = s.rsp := rfl
@[simp] theorem State.writeSlot_frameOut (i : Fin 144) (v : Intensity) : (s.writeSlot i v).frameOut = s.frameOut := rfl
@[simp] theorem State.writeSlot_logOut (i : Fin 144) (v : Intensity) : (s.writeSlot i v).logOut = s.logOut := rfl
@[simp] theorem State.writeSlot_txTrace (i : Fin 144) (v : Intensity) : (s.writeSlot i v).txTrace = s.txTrace := rfl
@[simp] theorem State.writeSlot_rstIn (i : Fin 144) (v : Intensity) : (s.writeSlot i v).rstIn = s.rstIn := rfl
@[simp] theorem State.writeSlot_cmdIn (i : Fin 144) (v : Intensity) : (s.writeSlot i v).cmdIn = s.cmdIn := rfl
@[simp] theorem State.writeSlot_openIn (i : Fin 144) (v : Intensity) : (s.writeSlot i v).openIn = s.openIn := rfl
@[simp] theorem State.writeSlot_writeIn (i : Fin 144) (v : Intensity) : (s.writeSlot i v).writeIn = s.writeIn := rfl
@[simp] theorem State.writeSlot_readIn (i : Fin 144) (v : Intensity) : (s.writeSlot i v).readIn = s.readIn := rfl
@[simp] theorem State.writeSlot_oracleIx (i : Fin 144) (v : Intensity) : (s.writeSlot i v).oracleIx = s.oracleIx := rfl

end

/-! ### fillSlots -/

section
variable (s : State)

@[simp] theorem State.fillSlots_cfg (lo n : Nat) (v : Intensity) : (s.fillSlots lo n v).cfg = s.cfg := rfl
@[simp] theorem State.fillSlots_buf (lo n : Nat) (v : Intensity) : (s.fillSlots lo n v).buf = fillBuffer s.buf lo n v := rfl
@[simp] theorem State.fillSlots_state (lo n : Nat) (v : Intensity) : (s.fillSlots lo n v).state = s.state := rfl
@[simp] theorem State.fillSlots_handleOpen (lo n : Nat) (v : Intensity) : (s.fillSlots lo n v).handleOpen = s.handleOpen := rfl
@[simp] theorem State.fillSlots_reconnectAttempts (lo n : Nat) (v : Intensity) : (s.fillSlots lo n v).reconnectAttempts = s.reconnectAttempts := rfl
@[simp] theorem State.fillSlots_fault (lo n : Nat) (v : Intensity) : (s.fillSlots lo n v).fault = s.fault := rfl
@[simp] theorem State.fillSlots_lastStatus (lo n : Nat) (v : Intensity) : (s.fillSlots lo n v).lastStatus = s.lastStatus := rfl
@[simp] theorem State.fillSlots_lastAck (lo n : Nat) (v : Intensity) : (s.fillSlots lo n v).lastAck = s.lastAck := rfl
@[simp] theorem State.fillSlots_ackRaw0 (lo n : Nat) (v : Intensity) : (s.fillSlots lo n v).ackRaw0 = s.ackRaw0 := rfl
@[simp] theorem State.fillSlots_ackRaw1 (lo n : Nat) (v : Intensity) : (s.fillSlots lo n v).ackRaw1 = s.ackRaw1 := rfl
@[simp] theorem State.fillSlots_chkStatus (lo n : Nat) (v : Intensity) : (s.fillSlots lo n v).chkStatus = s.chkStatus := rfl
@[simp] theorem State.fillSlots_chkSum (lo n : Nat) (v : Intensity) : (s.fillSlots lo n v).chkSum = s.chkSum := rfl
@[simp] theorem State.fillSlots_cmd (lo n : Nat) (v : Intensity) : (s.fillSlots lo n v).cmd = s.cmd := rfl
@[simp] theorem State.fillSlots_snapshot (lo n : Nat) (v : Intensity) : (s.fillSlots lo n v).snapshot = s.snapshot := rfl
@[simp] theorem State.fillSlots_ack0 (lo n : Nat) (v : Intensity) : (s.fillSlots lo n v).ack0 = s.ack0 := rfl
@[simp] theorem State.fillSlots_rsp (lo n : Nat) (v : Intensity) : (s.fillSlots lo n v).rsp = s.rsp := rfl
@[simp] theorem State.fillSlots_frameOut (lo n : Nat) (v : Intensity) : (s.fillSlots lo n v).frameOut = s.frameOut := rfl
@[simp] theorem State.fillSlots_logOut (lo n : Nat) (v : Intensity) : (s.fillSlots lo n v).logOut = s.logOut := rfl
@[simp] theorem State.fillSlots_txTrace (lo n : Nat) (v : Intensity) : (s.fillSlots lo n v).txTrace = s.txTrace := rfl
@[simp] theorem State.fillSlots_rstIn (lo n : Nat) (v : Intensity) : (s.fillSlots lo n v).rstIn = s.rstIn := rfl
@[simp] theorem State.fillSlots_cmdIn (lo n : Nat) (v : Intensity) : (s.fillSlots lo n v).cmdIn = s.cmdIn := rfl
@[simp] theorem State.fillSlots_openIn (lo n : Nat) (v : Intensity) : (s.fillSlots lo n v).openIn = s.openIn := rfl
@[simp] theorem State.fillSlots_writeIn (lo n : Nat) (v : Intensity) : (s.fillSlots lo n v).writeIn = s.writeIn := rfl
@[simp] theorem State.fillSlots_readIn (lo n : Nat) (v : Intensity) : (s.fillSlots lo n v).readIn = s.readIn := rfl
@[simp] theorem State.fillSlots_oracleIx (lo n : Nat) (v : Intensity) : (s.fillSlots lo n v).oracleIx = s.oracleIx := rfl

end

/-! ### goto -/

section
variable (s : State)

@[simp] theorem State.goto_cfg (h : HState) : (s.goto h).cfg = s.cfg := rfl
@[simp] theorem State.goto_buf (h : HState) : (s.goto h).buf = s.buf := rfl
@[simp] theorem State.goto_state (h : HState) : (s.goto h).state = h := rfl
@[simp] theorem State.goto_handleOpen (h : HState) : (s.goto h).handleOpen = s.handleOpen := rfl
@[simp] theorem State.goto_reconnectAttempts (h : HState) : (s.goto h).reconnectAttempts = s.reconnectAttempts := rfl
@[simp] theorem State.goto_fault (h : HState) : (s.goto h).fault = s.fault := rfl
@[simp] theorem State.goto_lastStatus (h : HState) : (s.goto h).lastStatus = s.lastStatus := rfl
@[simp] theorem State.goto_lastAck (h : HState) : (s.goto h).lastAck = s.lastAck := rfl
@[simp] theorem State.goto_ackRaw0 (h : HState) : (s.goto h).ackRaw0 = s.ackRaw0 := rfl
@[simp] theorem State.goto_ackRaw1 (h : HState) : (s.goto h).ackRaw1 = s.ackRaw1 := rfl
@[simp] theorem State.goto_chkStatus (h : HState) : (s.goto h).chkStatus = s.chkStatus := rfl
@[simp] theorem State.goto_chkSum (h : HState) : (s.goto h).chkSum = s.chkSum := rfl
@[simp] theorem State.goto_cmd (h : HState) : (s.goto h).cmd = s.cmd := rfl
@[simp] theorem State.goto_snapshot (h : HState) : (s.goto h).snapshot = s.snapshot := rfl
@[simp] theorem State.goto_ack0 (h : HState) : (s.goto h).ack0 = s.ack0 := rfl
@[simp] theorem State.goto_rsp (h : HState) : (s.goto h).rsp = s.rsp := rfl
@[simp] theorem State.goto_frameOut (h : HState) : (s.goto h).frameOut = s.frameOut := rfl
@[simp] theorem State.goto_logOut (h : HState) : (s.goto h).logOut = s.logOut := rfl
@[simp] theorem State.goto_txTrace (h : HState) : (s.goto h).txTrace = s.txTrace := rfl
@[simp] theorem State.goto_rstIn (h : HState) : (s.goto h).rstIn = s.rstIn := rfl
@[simp] theorem State.goto_cmdIn (h : HState) : (s.goto h).cmdIn = s.cmdIn := rfl
@[simp] theorem State.goto_openIn (h : HState) : (s.goto h).openIn = s.openIn := rfl
@[simp] theorem State.goto_writeIn (h : HState) : (s.goto h).writeIn = s.writeIn := rfl
@[simp] theorem State.goto_readIn (h : HState) : (s.goto h).readIn = s.readIn := rfl
@[simp] theorem State.goto_oracleIx (h : HState) : (s.goto h).oracleIx = s.oracleIx := rfl

end

/-! ### log -/

section
variable (s : State)

@[simp] theorem State.log_cfg (e : LogEvent) : (s.log e).cfg = s.cfg := rfl
@[simp] theorem State.log_buf (e : LogEvent) : (s.log e).buf = s.buf := rfl
@[simp] theorem State.log_state (e : LogEvent) : (s.log e).state = s.state := rfl
@[simp] theorem State.log_handleOpen (e : LogEvent) : (s.log e).handleOpen = s.handleOpen := rfl
@[simp] theorem State.log_reconnectAttempts (e : LogEvent) : (s.log e).reconnectAttempts = s.reconnectAttempts := rfl
@[simp] theorem State.log_fault (e : LogEvent) : (s.log e).fault = s.fault := rfl
@[simp] theorem State.log_lastStatus (e : LogEvent) : (s.log e).lastStatus = s.lastStatus := rfl
@[simp] theorem State.log_lastAck (e : LogEvent) : (s.log e).lastAck = s.lastAck := rfl
@[simp] theorem State.log_ackRaw0 (e : LogEvent) : (s.log e).ackRaw0 = s.ackRaw0 := rfl
@[simp] theorem State.log_ackRaw1 (e : LogEvent) : (s.log e).ackRaw1 = s.ackRaw1 := rfl
@[simp] theorem State.log_chkStatus (e : LogEvent) : (s.log e).chkStatus = s.chkStatus := rfl
@[simp] theorem State.log_chkSum (e : LogEvent) : (s.log e).chkSum = s.chkSum := rfl
@[simp] theorem State.log_cmd (e : LogEvent) : (s.log e).cmd = s.cmd := rfl
@[simp] theorem State.log_snapshot (e : LogEvent) : (s.log e).snapshot = s.snapshot := rfl
@[simp] theorem State.log_ack0 (e : LogEvent) : (s.log e).ack0 = s.ack0 := rfl
@[simp] theorem State.log_rsp (e : LogEvent) : (s.log e).rsp = s.rsp := rfl
@[simp] theorem State.log_frameOut (e : LogEvent) : (s.log e).frameOut = s.frameOut := rfl
@[simp] theorem State.log_logOut (e : LogEvent) : (s.log e).logOut = s.logOut ++ [e] := rfl
@[simp] theorem State.log_txTrace (e : LogEvent) : (s.log e).txTrace = s.txTrace := rfl
@[simp] theorem State.log_rstIn (e : LogEvent) : (s.log e).rstIn = s.rstIn := rfl
@[simp] theorem State.log_cmdIn (e : LogEvent) : (s.log e).cmdIn = s.cmdIn := rfl
@[simp] theorem State.log_openIn (e : LogEvent) : (s.log e).openIn = s.openIn := rfl
@[simp] theorem State.log_writeIn (e : LogEvent) : (s.log e).writeIn = s.writeIn := rfl
@[simp] theorem State.log_readIn (e : LogEvent) : (s.log e).readIn = s.readIn := rfl
@[simp] theorem State.log_oracleIx (e : LogEvent) : (s.log e).oracleIx = s.oracleIx := rfl

end

/-! ### emitFrame -/

section
variable (s : State)

@[simp] theorem State.emitFrame_cfg (f : List Byte) : (s.emitFrame f).cfg = s.cfg := rfl
@[simp] theorem State.emitFrame_buf (f : List Byte) : (s.emitFrame f).buf = s.buf := rfl
@[simp] theorem State.emitFrame_state (f : List Byte) : (s.emitFrame f).state = s.state := rfl
@[simp] theorem State.emitFrame_handleOpen (f : List Byte) : (s.emitFrame f).handleOpen = s.handleOpen := rfl
@[simp] theorem State.emitFrame_reconnectAttempts (f : List Byte) : (s.emitFrame f).reconnectAttempts = s.reconnectAttempts := rfl
@[simp] theorem State.emitFrame_fault (f : List Byte) : (s.emitFrame f).fault = s.fault := rfl
@[simp] theorem State.emitFrame_lastStatus (f : List Byte) : (s.emitFrame f).lastStatus = s.lastStatus := rfl
@[simp] theorem State.emitFrame_lastAck (f : List Byte) : (s.emitFrame f).lastAck = s.lastAck := rfl
@[simp] theorem State.emitFrame_ackRaw0 (f : List Byte) : (s.emitFrame f).ackRaw0 = s.ackRaw0 := rfl
@[simp] theorem State.emitFrame_ackRaw1 (f : List Byte) : (s.emitFrame f).ackRaw1 = s.ackRaw1 := rfl
@[simp] theorem State.emitFrame_chkStatus (f : List Byte) : (s.emitFrame f).chkStatus = s.chkStatus := rfl
@[simp] theorem State.emitFrame_chkSum (f : List Byte) : (s.emitFrame f).chkSum = s.chkSum := rfl
@[simp] theorem State.emitFrame_cmd (f : List Byte) : (s.emitFrame f).cmd = s.cmd := rfl
@[simp] theorem State.emitFrame_snapshot (f : List Byte) : (s.emitFrame f).snapshot = s.snapshot := rfl
@[simp] theorem State.emitFrame_ack0 (f : List Byte) : (s.emitFrame f).ack0 = s.ack0 := rfl
@[simp] theorem State.emitFrame_rsp (f : List Byte) : (s.emitFrame f).rsp = s.rsp := rfl
@[simp] theorem State.emitFrame_frameOut (f : List Byte) : (s.emitFrame f).frameOut = s.frameOut ++ [f] := rfl
@[simp] theorem State.emitFrame_logOut (f : List Byte) : (s.emitFrame f).logOut = s.logOut := rfl
@[simp] theorem State.emitFrame_txTrace (f : List Byte) : (s.emitFrame f).txTrace = s.txTrace := rfl
@[simp] theorem State.emitFrame_rstIn (f : List Byte) : (s.emitFrame f).rstIn = s.rstIn := rfl
@[simp] theorem State.emitFrame_cmdIn (f : List Byte) : (s.emitFrame f).cmdIn = s.cmdIn := rfl
@[simp] theorem State.emitFrame_openIn (f : List Byte) : (s.emitFrame f).openIn = s.openIn := rfl
@[simp] theorem State.emitFrame_writeIn (f : List Byte) : (s.emitFrame f).writeIn = s.writeIn := rfl
@[simp] theorem State.emitFrame_readIn (f : List Byte) : (s.emitFrame f).readIn = s.readIn := rfl
@[simp] theorem State.emitFrame_oracleIx (f : List Byte) : (s.emitFrame f).oracleIx = s.oracleIx := rfl

end

/-! ### respond -/

section
variable (s : State)

@[simp] theorem State.respond_cfg (st : Status) (a : AckClass) (k : Option Slot) : (s.respond st a k).cfg = s.cfg := rfl
@[simp] theorem State.respond_buf (st : Status) (a : AckClass) (k : Option Slot) : (s.respond st a k).buf = s.buf := rfl
@[simp] theorem State.respond_state (st : Status) (a : AckClass) (k : Option Slot) : (s.respond st a k).state = s.state := rfl
@[simp] theorem State.respond_handleOpen (st : Status) (a : AckClass) (k : Option Slot) : (s.respond st a k).handleOpen = s.handleOpen := rfl
@[simp] theorem State.respond_reconnectAttempts (st : Status) (a : AckClass) (k : Option Slot) : (s.respond st a k).reconnectAttempts = s.reconnectAttempts := rfl
@[simp] theorem State.respond_fault (st : Status) (a : AckClass) (k : Option Slot) : (s.respond st a k).fault = s.fault := rfl
@[simp] theorem State.respond_lastStatus (st : Status) (a : AckClass) (k : Option Slot) : (s.respond st a k).lastStatus = st := rfl
@[simp] theorem State.respond_lastAck (st : Status) (a : AckClass) (k : Option Slot) : (s.respond st a k).lastAck = s.lastAck := rfl
@[simp] theorem State.respond_ackRaw0 (st : Status) (a : AckClass) (k : Option Slot) : (s.respond st a k).ackRaw0 = s.ackRaw0 := rfl
@[simp] theorem State.respond_ackRaw1 (st : Status) (a : AckClass) (k : Option Slot) : (s.respond st a k).ackRaw1 = s.ackRaw1 := rfl
@[simp] theorem State.respond_chkStatus (st : Status) (a : AckClass) (k : Option Slot) : (s.respond st a k).chkStatus = s.chkStatus := rfl
@[simp] theorem State.respond_chkSum (st : Status) (a : AckClass) (k : Option Slot) : (s.respond st a k).chkSum = s.chkSum := rfl
@[simp] theorem State.respond_cmd (st : Status) (a : AckClass) (k : Option Slot) : (s.respond st a k).cmd = none := rfl
@[simp] theorem State.respond_snapshot (st : Status) (a : AckClass) (k : Option Slot) : (s.respond st a k).snapshot = none := rfl
@[simp] theorem State.respond_ack0 (st : Status) (a : AckClass) (k : Option Slot) : (s.respond st a k).ack0 = none := rfl
@[simp] theorem State.respond_rsp (st : Status) (a : AckClass) (k : Option Slot) : (s.respond st a k).rsp = some (packResponse st a k) := rfl
@[simp] theorem State.respond_frameOut (st : Status) (a : AckClass) (k : Option Slot) : (s.respond st a k).frameOut = s.frameOut := rfl
@[simp] theorem State.respond_logOut (st : Status) (a : AckClass) (k : Option Slot) : (s.respond st a k).logOut = s.logOut := rfl
@[simp] theorem State.respond_txTrace (st : Status) (a : AckClass) (k : Option Slot) : (s.respond st a k).txTrace = s.txTrace := rfl
@[simp] theorem State.respond_rstIn (st : Status) (a : AckClass) (k : Option Slot) : (s.respond st a k).rstIn = s.rstIn := rfl
@[simp] theorem State.respond_cmdIn (st : Status) (a : AckClass) (k : Option Slot) : (s.respond st a k).cmdIn = s.cmdIn := rfl
@[simp] theorem State.respond_openIn (st : Status) (a : AckClass) (k : Option Slot) : (s.respond st a k).openIn = s.openIn := rfl
@[simp] theorem State.respond_writeIn (st : Status) (a : AckClass) (k : Option Slot) : (s.respond st a k).writeIn = s.writeIn := rfl
@[simp] theorem State.respond_readIn (st : Status) (a : AckClass) (k : Option Slot) : (s.respond st a k).readIn = s.readIn := rfl
@[simp] theorem State.respond_oracleIx (st : Status) (a : AckClass) (k : Option Slot) : (s.respond st a k).oracleIx = s.oracleIx := rfl

end

/-! ### txOpen -/

section
variable (s : State)

@[simp] theorem State.txOpen_cfg : (s.txOpen).cfg = s.cfg := rfl
@[simp] theorem State.txOpen_buf : (s.txOpen).buf = s.buf := rfl
@[simp] theorem State.txOpen_state : (s.txOpen).state = s.state := rfl
@[simp] theorem State.txOpen_handleOpen : (s.txOpen).handleOpen = (s.handleOpen || decide (s.openAnswer = .ok)) := rfl
@[simp] theorem State.txOpen_reconnectAttempts : (s.txOpen).reconnectAttempts = s.reconnectAttempts := rfl
@[simp] theorem State.txOpen_fault : (s.txOpen).fault = s.fault := rfl
@[simp] theorem State.txOpen_lastStatus : (s.txOpen).lastStatus = s.lastStatus := rfl
@[simp] theorem State.txOpen_lastAck : (s.txOpen).lastAck = s.lastAck := rfl
@[simp] theorem State.txOpen_ackRaw0 : (s.txOpen).ackRaw0 = s.ackRaw0 := rfl
@[simp] theorem State.txOpen_ackRaw1 : (s.txOpen).ackRaw1 = s.ackRaw1 := rfl
@[simp] theorem State.txOpen_chkStatus : (s.txOpen).chkStatus = s.chkStatus := rfl
@[simp] theorem State.txOpen_chkSum : (s.txOpen).chkSum = s.chkSum := rfl
@[simp] theorem State.txOpen_cmd : (s.txOpen).cmd = s.cmd := rfl
@[simp] theorem State.txOpen_snapshot : (s.txOpen).snapshot = s.snapshot := rfl
@[simp] theorem State.txOpen_ack0 : (s.txOpen).ack0 = s.ack0 := rfl
@[simp] theorem State.txOpen_rsp : (s.txOpen).rsp = s.rsp := rfl
@[simp] theorem State.txOpen_frameOut : (s.txOpen).frameOut = s.frameOut := rfl
@[simp] theorem State.txOpen_logOut : (s.txOpen).logOut = s.logOut := rfl
@[simp] theorem State.txOpen_txTrace : (s.txOpen).txTrace = s.txTrace ++ [.openReq s.cfg.port s.cfg.baud s.openAnswer] := rfl
@[simp] theorem State.txOpen_rstIn : (s.txOpen).rstIn = s.rstIn := rfl
@[simp] theorem State.txOpen_cmdIn : (s.txOpen).cmdIn = s.cmdIn := rfl
@[simp] theorem State.txOpen_openIn : (s.txOpen).openIn = s.openIn.tail := rfl
@[simp] theorem State.txOpen_writeIn : (s.txOpen).writeIn = s.writeIn := rfl
@[simp] theorem State.txOpen_readIn : (s.txOpen).readIn = s.readIn := rfl
@[simp] theorem State.txOpen_oracleIx : (s.txOpen).oracleIx = s.oracleIx + 1 := rfl

end

/-! ### txWrite -/

section
variable (s : State)

@[simp] theorem State.txWrite_cfg (bs : List Byte) : (s.txWrite bs).cfg = s.cfg := rfl
@[simp] theorem State.txWrite_buf (bs : List Byte) : (s.txWrite bs).buf = s.buf := rfl
@[simp] theorem State.txWrite_state (bs : List Byte) : (s.txWrite bs).state = s.state := rfl
@[simp] theorem State.txWrite_handleOpen (bs : List Byte) : (s.txWrite bs).handleOpen = s.handleOpen := rfl
@[simp] theorem State.txWrite_reconnectAttempts (bs : List Byte) : (s.txWrite bs).reconnectAttempts = s.reconnectAttempts := rfl
@[simp] theorem State.txWrite_fault (bs : List Byte) : (s.txWrite bs).fault = s.fault := rfl
@[simp] theorem State.txWrite_lastStatus (bs : List Byte) : (s.txWrite bs).lastStatus = s.lastStatus := rfl
@[simp] theorem State.txWrite_lastAck (bs : List Byte) : (s.txWrite bs).lastAck = s.lastAck := rfl
@[simp] theorem State.txWrite_ackRaw0 (bs : List Byte) : (s.txWrite bs).ackRaw0 = s.ackRaw0 := rfl
@[simp] theorem State.txWrite_ackRaw1 (bs : List Byte) : (s.txWrite bs).ackRaw1 = s.ackRaw1 := rfl
@[simp] theorem State.txWrite_chkStatus (bs : List Byte) : (s.txWrite bs).chkStatus = s.chkStatus := rfl
@[simp] theorem State.txWrite_chkSum (bs : List Byte) : (s.txWrite bs).chkSum = s.chkSum := rfl
@[simp] theorem State.txWrite_cmd (bs : List Byte) : (s.txWrite bs).cmd = s.cmd := rfl
@[simp] theorem State.txWrite_snapshot (bs : List Byte) : (s.txWrite bs).snapshot = s.snapshot := rfl
@[simp] theorem State.txWrite_ack0 (bs : List Byte) : (s.txWrite bs).ack0 = s.ack0 := rfl
@[simp] theorem State.txWrite_rsp (bs : List Byte) : (s.txWrite bs).rsp = s.rsp := rfl
@[simp] theorem State.txWrite_frameOut (bs : List Byte) : (s.txWrite bs).frameOut = s.frameOut := rfl
@[simp] theorem State.txWrite_logOut (bs : List Byte) : (s.txWrite bs).logOut = s.logOut := rfl
@[simp] theorem State.txWrite_txTrace (bs : List Byte) : (s.txWrite bs).txTrace = s.txTrace ++ [.writeReq bs s.writeAnswer] := rfl
@[simp] theorem State.txWrite_rstIn (bs : List Byte) : (s.txWrite bs).rstIn = s.rstIn := rfl
@[simp] theorem State.txWrite_cmdIn (bs : List Byte) : (s.txWrite bs).cmdIn = s.cmdIn := rfl
@[simp] theorem State.txWrite_openIn (bs : List Byte) : (s.txWrite bs).openIn = s.openIn := rfl
@[simp] theorem State.txWrite_writeIn (bs : List Byte) : (s.txWrite bs).writeIn = s.writeIn.tail := rfl
@[simp] theorem State.txWrite_readIn (bs : List Byte) : (s.txWrite bs).readIn = s.readIn := rfl
@[simp] theorem State.txWrite_oracleIx (bs : List Byte) : (s.txWrite bs).oracleIx = s.oracleIx + 1 := rfl

end

/-! ### txRead -/

section
variable (s : State)

@[simp] theorem State.txRead_cfg (ms : Nat) : (s.txRead ms).cfg = s.cfg := rfl
@[simp] theorem State.txRead_buf (ms : Nat) : (s.txRead ms).buf = s.buf := rfl
@[simp] theorem State.txRead_state (ms : Nat) : (s.txRead ms).state = s.state := rfl
@[simp] theorem State.txRead_handleOpen (ms : Nat) : (s.txRead ms).handleOpen = s.handleOpen := rfl
@[simp] theorem State.txRead_reconnectAttempts (ms : Nat) : (s.txRead ms).reconnectAttempts = s.reconnectAttempts := rfl
@[simp] theorem State.txRead_fault (ms : Nat) : (s.txRead ms).fault = s.fault := rfl
@[simp] theorem State.txRead_lastStatus (ms : Nat) : (s.txRead ms).lastStatus = s.lastStatus := rfl
@[simp] theorem State.txRead_lastAck (ms : Nat) : (s.txRead ms).lastAck = s.lastAck := rfl
@[simp] theorem State.txRead_ackRaw0 (ms : Nat) : (s.txRead ms).ackRaw0 = s.ackRaw0 := rfl
@[simp] theorem State.txRead_ackRaw1 (ms : Nat) : (s.txRead ms).ackRaw1 = s.ackRaw1 := rfl
@[simp] theorem State.txRead_chkStatus (ms : Nat) : (s.txRead ms).chkStatus = s.chkStatus := rfl
@[simp] theorem State.txRead_chkSum (ms : Nat) : (s.txRead ms).chkSum = s.chkSum := rfl
@[simp] theorem State.txRead_cmd (ms : Nat) : (s.txRead ms).cmd = s.cmd := rfl
@[simp] theorem State.txRead_snapshot (ms : Nat) : (s.txRead ms).snapshot = s.snapshot := rfl
@[simp] theorem State.txRead_ack0 (ms : Nat) : (s.txRead ms).ack0 = s.ack0 := rfl
@[simp] theorem State.txRead_rsp (ms : Nat) : (s.txRead ms).rsp = s.rsp := rfl
@[simp] theorem State.txRead_frameOut (ms : Nat) : (s.txRead ms).frameOut = s.frameOut := rfl
@[simp] theorem State.txRead_logOut (ms : Nat) : (s.txRead ms).logOut = s.logOut := rfl
@[simp] theorem State.txRead_txTrace (ms : Nat) : (s.txRead ms).txTrace = s.txTrace ++ [.readReq ms s.readAnswer] := rfl
@[simp] theorem State.txRead_rstIn (ms : Nat) : (s.txRead ms).rstIn = s.rstIn := rfl
@[simp] theorem State.txRead_cmdIn (ms : Nat) : (s.txRead ms).cmdIn = s.cmdIn := rfl
@[simp] theorem State.txRead_openIn (ms : Nat) : (s.txRead ms).openIn = s.openIn := rfl
@[simp] theorem State.txRead_writeIn (ms : Nat) : (s.txRead ms).writeIn = s.writeIn := rfl
@[simp] theorem State.txRead_readIn (ms : Nat) : (s.txRead ms).readIn = s.readIn.tail := rfl
@[simp] theorem State.txRead_oracleIx (ms : Nat) : (s.txRead ms).oracleIx = s.oracleIx + 1 := rfl

end

/-! ### txClose -/

section
variable (s : State)

@[simp] theorem State.txClose_cfg : (s.txClose).cfg = s.cfg := rfl
@[simp] theorem State.txClose_buf : (s.txClose).buf = s.buf := rfl
@[simp] theorem State.txClose_state : (s.txClose).state = s.state := rfl
@[simp] theorem State.txClose_handleOpen : (s.txClose).handleOpen = false := rfl
@[simp] theorem State.txClose_reconnectAttempts : (s.txClose).reconnectAttempts = s.reconnectAttempts := rfl
@[simp] theorem State.txClose_fault : (s.txClose).fault = s.fault := rfl
@[simp] theorem State.txClose_lastStatus : (s.txClose).lastStatus = s.lastStatus := rfl
@[simp] theorem State.txClose_lastAck : (s.txClose).lastAck = s.lastAck := rfl
@[simp] theorem State.txClose_ackRaw0 : (s.txClose).ackRaw0 = s.ackRaw0 := rfl
@[simp] theorem State.txClose_ackRaw1 : (s.txClose).ackRaw1 = s.ackRaw1 := rfl
@[simp] theorem State.txClose_chkStatus : (s.txClose).chkStatus = s.chkStatus := rfl
@[simp] theorem State.txClose_chkSum : (s.txClose).chkSum = s.chkSum := rfl
@[simp] theorem State.txClose_cmd : (s.txClose).cmd = s.cmd := rfl
@[simp] theorem State.txClose_snapshot : (s.txClose).snapshot = s.snapshot := rfl
@[simp] theorem State.txClose_ack0 : (s.txClose).ack0 = s.ack0 := rfl
@[simp] theorem State.txClose_rsp : (s.txClose).rsp = s.rsp := rfl
@[simp] theorem State.txClose_frameOut : (s.txClose).frameOut = s.frameOut := rfl
@[simp] theorem State.txClose_logOut : (s.txClose).logOut = s.logOut := rfl
@[simp] theorem State.txClose_txTrace : (s.txClose).txTrace = s.txTrace ++ [.closeReq] := rfl
@[simp] theorem State.txClose_rstIn : (s.txClose).rstIn = s.rstIn := rfl
@[simp] theorem State.txClose_cmdIn : (s.txClose).cmdIn = s.cmdIn := rfl
@[simp] theorem State.txClose_openIn : (s.txClose).openIn = s.openIn := rfl
@[simp] theorem State.txClose_writeIn : (s.txClose).writeIn = s.writeIn := rfl
@[simp] theorem State.txClose_readIn : (s.txClose).readIn = s.readIn := rfl
@[simp] theorem State.txClose_oracleIx : (s.txClose).oracleIx = s.oracleIx := rfl

end

/-! ### noteReset -/

section
variable (s : State)

@[simp] theorem State.noteReset_cfg (r : Option TxRequest) : (s.noteReset r).cfg = s.cfg := rfl
@[simp] theorem State.noteReset_buf (r : Option TxRequest) : (s.noteReset r).buf = s.buf := rfl
@[simp] theorem State.noteReset_state (r : Option TxRequest) : (s.noteReset r).state = s.state := rfl
@[simp] theorem State.noteReset_handleOpen (r : Option TxRequest) : (s.noteReset r).handleOpen = s.handleOpen := rfl
@[simp] theorem State.noteReset_reconnectAttempts (r : Option TxRequest) : (s.noteReset r).reconnectAttempts = s.reconnectAttempts := rfl
@[simp] theorem State.noteReset_fault (r : Option TxRequest) : (s.noteReset r).fault = s.fault := rfl
@[simp] theorem State.noteReset_lastStatus (r : Option TxRequest) : (s.noteReset r).lastStatus = s.lastStatus := rfl
@[simp] theorem State.noteReset_lastAck (r : Option TxRequest) : (s.noteReset r).lastAck = s.lastAck := rfl
@[simp] theorem State.noteReset_ackRaw0 (r : Option TxRequest) : (s.noteReset r).ackRaw0 = s.ackRaw0 := rfl
@[simp] theorem State.noteReset_ackRaw1 (r : Option TxRequest) : (s.noteReset r).ackRaw1 = s.ackRaw1 := rfl
@[simp] theorem State.noteReset_chkStatus (r : Option TxRequest) : (s.noteReset r).chkStatus = s.chkStatus := rfl
@[simp] theorem State.noteReset_chkSum (r : Option TxRequest) : (s.noteReset r).chkSum = s.chkSum := rfl
@[simp] theorem State.noteReset_cmd (r : Option TxRequest) : (s.noteReset r).cmd = s.cmd := rfl
@[simp] theorem State.noteReset_snapshot (r : Option TxRequest) : (s.noteReset r).snapshot = s.snapshot := rfl
@[simp] theorem State.noteReset_ack0 (r : Option TxRequest) : (s.noteReset r).ack0 = s.ack0 := rfl
@[simp] theorem State.noteReset_rsp (r : Option TxRequest) : (s.noteReset r).rsp = s.rsp := rfl
@[simp] theorem State.noteReset_frameOut (r : Option TxRequest) : (s.noteReset r).frameOut = s.frameOut := rfl
@[simp] theorem State.noteReset_logOut (r : Option TxRequest) : (s.noteReset r).logOut = s.logOut := rfl
@[simp] theorem State.noteReset_txTrace (r : Option TxRequest) : (s.noteReset r).txTrace = s.txTrace ++ [.rst r] := rfl
@[simp] theorem State.noteReset_rstIn (r : Option TxRequest) : (s.noteReset r).rstIn = s.rstIn := rfl
@[simp] theorem State.noteReset_cmdIn (r : Option TxRequest) : (s.noteReset r).cmdIn = s.cmdIn := rfl
@[simp] theorem State.noteReset_openIn (r : Option TxRequest) : (s.noteReset r).openIn = s.openIn := rfl
@[simp] theorem State.noteReset_writeIn (r : Option TxRequest) : (s.noteReset r).writeIn = s.writeIn := rfl
@[simp] theorem State.noteReset_readIn (r : Option TxRequest) : (s.noteReset r).readIn = s.readIn := rfl
@[simp] theorem State.noteReset_oracleIx (r : Option TxRequest) : (s.noteReset r).oracleIx = s.oracleIx := rfl

end

/-! ### keepFirstFault -/

section
variable (s : State)

@[simp] theorem State.keepFirstFault_cfg (c : FaultCode) : (s.keepFirstFault c).cfg = s.cfg := rfl
@[simp] theorem State.keepFirstFault_buf (c : FaultCode) : (s.keepFirstFault c).buf = s.buf := rfl
@[simp] theorem State.keepFirstFault_state (c : FaultCode) : (s.keepFirstFault c).state = s.state := rfl
@[simp] theorem State.keepFirstFault_handleOpen (c : FaultCode) : (s.keepFirstFault c).handleOpen = s.handleOpen := rfl
@[simp] theorem State.keepFirstFault_reconnectAttempts (c : FaultCode) : (s.keepFirstFault c).reconnectAttempts = s.reconnectAttempts := rfl
@[simp] theorem State.keepFirstFault_fault (c : FaultCode) : (s.keepFirstFault c).fault = s.fault.orFirst c := rfl
@[simp] theorem State.keepFirstFault_lastStatus (c : FaultCode) : (s.keepFirstFault c).lastStatus = s.lastStatus := rfl
@[simp] theorem State.keepFirstFault_lastAck (c : FaultCode) : (s.keepFirstFault c).lastAck = s.lastAck := rfl
@[simp] theorem State.keepFirstFault_ackRaw0 (c : FaultCode) : (s.keepFirstFault c).ackRaw0 = s.ackRaw0 := rfl
@[simp] theorem State.keepFirstFault_ackRaw1 (c : FaultCode) : (s.keepFirstFault c).ackRaw1 = s.ackRaw1 := rfl
@[simp] theorem State.keepFirstFault_chkStatus (c : FaultCode) : (s.keepFirstFault c).chkStatus = s.chkStatus := rfl
@[simp] theorem State.keepFirstFault_chkSum (c : FaultCode) : (s.keepFirstFault c).chkSum = s.chkSum := rfl
@[simp] theorem State.keepFirstFault_cmd (c : FaultCode) : (s.keepFirstFault c).cmd = s.cmd := rfl
@[simp] theorem State.keepFirstFault_snapshot (c : FaultCode) : (s.keepFirstFault c).snapshot = s.snapshot := rfl
@[simp] theorem State.keepFirstFault_ack0 (c : FaultCode) : (s.keepFirstFault c).ack0 = s.ack0 := rfl
@[simp] theorem State.keepFirstFault_rsp (c : FaultCode) : (s.keepFirstFault c).rsp = s.rsp := rfl
@[simp] theorem State.keepFirstFault_frameOut (c : FaultCode) : (s.keepFirstFault c).frameOut = s.frameOut := rfl
@[simp] theorem State.keepFirstFault_logOut (c : FaultCode) : (s.keepFirstFault c).logOut = s.logOut := rfl
@[simp] theorem State.keepFirstFault_txTrace (c : FaultCode) : (s.keepFirstFault c).txTrace = s.txTrace := rfl
@[simp] theorem State.keepFirstFault_rstIn (c : FaultCode) : (s.keepFirstFault c).rstIn = s.rstIn := rfl
@[simp] theorem State.keepFirstFault_cmdIn (c : FaultCode) : (s.keepFirstFault c).cmdIn = s.cmdIn := rfl
@[simp] theorem State.keepFirstFault_openIn (c : FaultCode) : (s.keepFirstFault c).openIn = s.openIn := rfl
@[simp] theorem State.keepFirstFault_writeIn (c : FaultCode) : (s.keepFirstFault c).writeIn = s.writeIn := rfl
@[simp] theorem State.keepFirstFault_readIn (c : FaultCode) : (s.keepFirstFault c).readIn = s.readIn := rfl
@[simp] theorem State.keepFirstFault_oracleIx (c : FaultCode) : (s.keepFirstFault c).oracleIx = s.oracleIx := rfl

end

/-! ### tick -/

section
variable (s : State)

@[simp] theorem State.tick_cfg : (s.tick).cfg = s.cfg := rfl
@[simp] theorem State.tick_buf : (s.tick).buf = s.buf := rfl
@[simp] theorem State.tick_state : (s.tick).state = s.state := rfl
@[simp] theorem State.tick_handleOpen : (s.tick).handleOpen = s.handleOpen := rfl
@[simp] theorem State.tick_reconnectAttempts : (s.tick).reconnectAttempts = s.reconnectAttempts := rfl
@[simp] theorem State.tick_fault : (s.tick).fault = s.fault := rfl
@[simp] theorem State.tick_lastStatus : (s.tick).lastStatus = s.lastStatus := rfl
@[simp] theorem State.tick_lastAck : (s.tick).lastAck = s.lastAck := rfl
@[simp] theorem State.tick_ackRaw0 : (s.tick).ackRaw0 = s.ackRaw0 := rfl
@[simp] theorem State.tick_ackRaw1 : (s.tick).ackRaw1 = s.ackRaw1 := rfl
@[simp] theorem State.tick_chkStatus : (s.tick).chkStatus = s.chkStatus := rfl
@[simp] theorem State.tick_chkSum : (s.tick).chkSum = s.chkSum := rfl
@[simp] theorem State.tick_cmd : (s.tick).cmd = s.cmd := rfl
@[simp] theorem State.tick_snapshot : (s.tick).snapshot = s.snapshot := rfl
@[simp] theorem State.tick_ack0 : (s.tick).ack0 = s.ack0 := rfl
@[simp] theorem State.tick_rsp : (s.tick).rsp = none := rfl
@[simp] theorem State.tick_frameOut : (s.tick).frameOut = s.frameOut := rfl
@[simp] theorem State.tick_logOut : (s.tick).logOut = s.logOut := rfl
@[simp] theorem State.tick_txTrace : (s.tick).txTrace = s.txTrace := rfl
@[simp] theorem State.tick_rstIn : (s.tick).rstIn = s.rstIn.tail := rfl
@[simp] theorem State.tick_cmdIn : (s.tick).cmdIn = s.cmdIn := rfl
@[simp] theorem State.tick_openIn : (s.tick).openIn = s.openIn := rfl
@[simp] theorem State.tick_writeIn : (s.tick).writeIn = s.writeIn := rfl
@[simp] theorem State.tick_readIn : (s.tick).readIn = s.readIn := rfl
@[simp] theorem State.tick_oracleIx : (s.tick).oracleIx = s.oracleIx := rfl

end

/-! ### beginCommand -/

section
variable (s : State)

@[simp] theorem State.beginCommand_cfg (i : Instr) : (s.beginCommand i).cfg = s.cfg := rfl
@[simp] theorem State.beginCommand_buf (i : Instr) : (s.beginCommand i).buf = s.buf := rfl
@[simp] theorem State.beginCommand_state (i : Instr) : (s.beginCommand i).state = s.state := rfl
@[simp] theorem State.beginCommand_handleOpen (i : Instr) : (s.beginCommand i).handleOpen = s.handleOpen := rfl
@[simp] theorem State.beginCommand_reconnectAttempts (i : Instr) : (s.beginCommand i).reconnectAttempts = s.reconnectAttempts := rfl
@[simp] theorem State.beginCommand_fault (i : Instr) : (s.beginCommand i).fault = s.fault := rfl
@[simp] theorem State.beginCommand_lastStatus (i : Instr) : (s.beginCommand i).lastStatus = s.lastStatus := rfl
@[simp] theorem State.beginCommand_lastAck (i : Instr) : (s.beginCommand i).lastAck = s.lastAck := rfl
@[simp] theorem State.beginCommand_ackRaw0 (i : Instr) : (s.beginCommand i).ackRaw0 = s.ackRaw0 := rfl
@[simp] theorem State.beginCommand_ackRaw1 (i : Instr) : (s.beginCommand i).ackRaw1 = s.ackRaw1 := rfl
@[simp] theorem State.beginCommand_chkStatus (i : Instr) : (s.beginCommand i).chkStatus = s.chkStatus := rfl
@[simp] theorem State.beginCommand_chkSum (i : Instr) : (s.beginCommand i).chkSum = s.chkSum := rfl
@[simp] theorem State.beginCommand_cmd (i : Instr) : (s.beginCommand i).cmd = some i := rfl
@[simp] theorem State.beginCommand_snapshot (i : Instr) : (s.beginCommand i).snapshot = s.snapshot := rfl
@[simp] theorem State.beginCommand_ack0 (i : Instr) : (s.beginCommand i).ack0 = s.ack0 := rfl
@[simp] theorem State.beginCommand_rsp (i : Instr) : (s.beginCommand i).rsp = s.rsp := rfl
@[simp] theorem State.beginCommand_frameOut (i : Instr) : (s.beginCommand i).frameOut = s.frameOut := rfl
@[simp] theorem State.beginCommand_logOut (i : Instr) : (s.beginCommand i).logOut = s.logOut := rfl
@[simp] theorem State.beginCommand_txTrace (i : Instr) : (s.beginCommand i).txTrace = s.txTrace := rfl
@[simp] theorem State.beginCommand_rstIn (i : Instr) : (s.beginCommand i).rstIn = s.rstIn := rfl
@[simp] theorem State.beginCommand_cmdIn (i : Instr) : (s.beginCommand i).cmdIn = s.cmdIn := rfl
@[simp] theorem State.beginCommand_openIn (i : Instr) : (s.beginCommand i).openIn = s.openIn := rfl
@[simp] theorem State.beginCommand_writeIn (i : Instr) : (s.beginCommand i).writeIn = s.writeIn := rfl
@[simp] theorem State.beginCommand_readIn (i : Instr) : (s.beginCommand i).readIn = s.readIn := rfl
@[simp] theorem State.beginCommand_oracleIx (i : Instr) : (s.beginCommand i).oracleIx = s.oracleIx := rfl

end

/-! ### clearAckRaw -/

section
variable (s : State)

@[simp] theorem State.clearAckRaw_cfg : (s.clearAckRaw).cfg = s.cfg := rfl
@[simp] theorem State.clearAckRaw_buf : (s.clearAckRaw).buf = s.buf := rfl
@[simp] theorem State.clearAckRaw_state : (s.clearAckRaw).state = s.state := rfl
@[simp] theorem State.clearAckRaw_handleOpen : (s.clearAckRaw).handleOpen = s.handleOpen := rfl
@[simp] theorem State.clearAckRaw_reconnectAttempts : (s.clearAckRaw).reconnectAttempts = s.reconnectAttempts := rfl
@[simp] theorem State.clearAckRaw_fault : (s.clearAckRaw).fault = s.fault := rfl
@[simp] theorem State.clearAckRaw_lastStatus : (s.clearAckRaw).lastStatus = s.lastStatus := rfl
@[simp] theorem State.clearAckRaw_lastAck : (s.clearAckRaw).lastAck = s.lastAck := rfl
@[simp] theorem State.clearAckRaw_ackRaw0 : (s.clearAckRaw).ackRaw0 = 0#10 := rfl
@[simp] theorem State.clearAckRaw_ackRaw1 : (s.clearAckRaw).ackRaw1 = 0#10 := rfl
@[simp] theorem State.clearAckRaw_chkStatus : (s.clearAckRaw).chkStatus = s.chkStatus := rfl
@[simp] theorem State.clearAckRaw_chkSum : (s.clearAckRaw).chkSum = s.chkSum := rfl
@[simp] theorem State.clearAckRaw_cmd : (s.clearAckRaw).cmd = s.cmd := rfl
@[simp] theorem State.clearAckRaw_snapshot : (s.clearAckRaw).snapshot = s.snapshot := rfl
@[simp] theorem State.clearAckRaw_ack0 : (s.clearAckRaw).ack0 = s.ack0 := rfl
@[simp] theorem State.clearAckRaw_rsp : (s.clearAckRaw).rsp = s.rsp := rfl
@[simp] theorem State.clearAckRaw_frameOut : (s.clearAckRaw).frameOut = s.frameOut := rfl
@[simp] theorem State.clearAckRaw_logOut : (s.clearAckRaw).logOut = s.logOut := rfl
@[simp] theorem State.clearAckRaw_txTrace : (s.clearAckRaw).txTrace = s.txTrace := rfl
@[simp] theorem State.clearAckRaw_rstIn : (s.clearAckRaw).rstIn = s.rstIn := rfl
@[simp] theorem State.clearAckRaw_cmdIn : (s.clearAckRaw).cmdIn = s.cmdIn := rfl
@[simp] theorem State.clearAckRaw_openIn : (s.clearAckRaw).openIn = s.openIn := rfl
@[simp] theorem State.clearAckRaw_writeIn : (s.clearAckRaw).writeIn = s.writeIn := rfl
@[simp] theorem State.clearAckRaw_readIn : (s.clearAckRaw).readIn = s.readIn := rfl
@[simp] theorem State.clearAckRaw_oracleIx : (s.clearAckRaw).oracleIx = s.oracleIx := rfl

end

/-! ### presentCommand -/

section
variable (s : State)

@[simp] theorem State.presentCommand_cfg (w : Word) : (s.presentCommand w).cfg = s.cfg := rfl
@[simp] theorem State.presentCommand_buf (w : Word) : (s.presentCommand w).buf = s.buf := rfl
@[simp] theorem State.presentCommand_state (w : Word) : (s.presentCommand w).state = .connected := rfl
@[simp] theorem State.presentCommand_handleOpen (w : Word) : (s.presentCommand w).handleOpen = true := rfl
@[simp] theorem State.presentCommand_reconnectAttempts (w : Word) : (s.presentCommand w).reconnectAttempts = s.reconnectAttempts := rfl
@[simp] theorem State.presentCommand_fault (w : Word) : (s.presentCommand w).fault = s.fault := rfl
@[simp] theorem State.presentCommand_lastStatus (w : Word) : (s.presentCommand w).lastStatus = s.lastStatus := rfl
@[simp] theorem State.presentCommand_lastAck (w : Word) : (s.presentCommand w).lastAck = s.lastAck := rfl
@[simp] theorem State.presentCommand_ackRaw0 (w : Word) : (s.presentCommand w).ackRaw0 = s.ackRaw0 := rfl
@[simp] theorem State.presentCommand_ackRaw1 (w : Word) : (s.presentCommand w).ackRaw1 = s.ackRaw1 := rfl
@[simp] theorem State.presentCommand_chkStatus (w : Word) : (s.presentCommand w).chkStatus = s.chkStatus := rfl
@[simp] theorem State.presentCommand_chkSum (w : Word) : (s.presentCommand w).chkSum = s.chkSum := rfl
@[simp] theorem State.presentCommand_cmd (w : Word) : (s.presentCommand w).cmd = none := rfl
@[simp] theorem State.presentCommand_snapshot (w : Word) : (s.presentCommand w).snapshot = s.snapshot := rfl
@[simp] theorem State.presentCommand_ack0 (w : Word) : (s.presentCommand w).ack0 = s.ack0 := rfl
@[simp] theorem State.presentCommand_rsp (w : Word) : (s.presentCommand w).rsp = s.rsp := rfl
@[simp] theorem State.presentCommand_frameOut (w : Word) : (s.presentCommand w).frameOut = s.frameOut := rfl
@[simp] theorem State.presentCommand_logOut (w : Word) : (s.presentCommand w).logOut = s.logOut := rfl
@[simp] theorem State.presentCommand_txTrace (w : Word) : (s.presentCommand w).txTrace = s.txTrace := rfl
@[simp] theorem State.presentCommand_rstIn (w : Word) : (s.presentCommand w).rstIn = .low :: s.rstIn := rfl
@[simp] theorem State.presentCommand_cmdIn (w : Word) : (s.presentCommand w).cmdIn = w :: s.cmdIn := rfl
@[simp] theorem State.presentCommand_openIn (w : Word) : (s.presentCommand w).openIn = s.openIn := rfl
@[simp] theorem State.presentCommand_writeIn (w : Word) : (s.presentCommand w).writeIn = s.writeIn := rfl
@[simp] theorem State.presentCommand_readIn (w : Word) : (s.presentCommand w).readIn = s.readIn := rfl
@[simp] theorem State.presentCommand_oracleIx (w : Word) : (s.presentCommand w).oracleIx = s.oracleIx := rfl

end

/-! ### reopen -/

section
variable (s : State)

@[simp] theorem State.reopen_cfg : (s.reopen).cfg = s.cfg := rfl
@[simp] theorem State.reopen_buf : (s.reopen).buf = s.buf := rfl
@[simp] theorem State.reopen_state : (s.reopen).state = s.state := rfl
@[simp] theorem State.reopen_handleOpen : (s.reopen).handleOpen = (s.handleOpen || decide (s.openAnswer = .ok)) := rfl
@[simp] theorem State.reopen_reconnectAttempts : (s.reopen).reconnectAttempts = saturatingSucc s.reconnectAttempts := rfl
@[simp] theorem State.reopen_fault : (s.reopen).fault = s.fault := rfl
@[simp] theorem State.reopen_lastStatus : (s.reopen).lastStatus = s.lastStatus := rfl
@[simp] theorem State.reopen_lastAck : (s.reopen).lastAck = s.lastAck := rfl
@[simp] theorem State.reopen_ackRaw0 : (s.reopen).ackRaw0 = s.ackRaw0 := rfl
@[simp] theorem State.reopen_ackRaw1 : (s.reopen).ackRaw1 = s.ackRaw1 := rfl
@[simp] theorem State.reopen_chkStatus : (s.reopen).chkStatus = s.chkStatus := rfl
@[simp] theorem State.reopen_chkSum : (s.reopen).chkSum = s.chkSum := rfl
@[simp] theorem State.reopen_cmd : (s.reopen).cmd = s.cmd := rfl
@[simp] theorem State.reopen_snapshot : (s.reopen).snapshot = s.snapshot := rfl
@[simp] theorem State.reopen_ack0 : (s.reopen).ack0 = s.ack0 := rfl
@[simp] theorem State.reopen_rsp : (s.reopen).rsp = s.rsp := rfl
@[simp] theorem State.reopen_frameOut : (s.reopen).frameOut = s.frameOut := rfl
@[simp] theorem State.reopen_logOut : (s.reopen).logOut = s.logOut := rfl
@[simp] theorem State.reopen_txTrace : (s.reopen).txTrace = s.txTrace ++ [.openReq s.cfg.port s.cfg.baud s.openAnswer] := rfl
@[simp] theorem State.reopen_rstIn : (s.reopen).rstIn = s.rstIn := rfl
@[simp] theorem State.reopen_cmdIn : (s.reopen).cmdIn = s.cmdIn := rfl
@[simp] theorem State.reopen_openIn : (s.reopen).openIn = s.openIn.tail := rfl
@[simp] theorem State.reopen_writeIn : (s.reopen).writeIn = s.writeIn := rfl
@[simp] theorem State.reopen_readIn : (s.reopen).readIn = s.readIn := rfl
@[simp] theorem State.reopen_oracleIx : (s.reopen).oracleIx = s.oracleIx + 1 := rfl

end

/-! ### linkUp -/

section
variable (s : State)

@[simp] theorem State.linkUp_cfg : (s.linkUp).cfg = s.cfg := rfl
@[simp] theorem State.linkUp_buf : (s.linkUp).buf = s.buf := rfl
@[simp] theorem State.linkUp_state : (s.linkUp).state = linkUpState s.cfg.initOrder := rfl
@[simp] theorem State.linkUp_handleOpen : (s.linkUp).handleOpen = s.handleOpen := rfl
@[simp] theorem State.linkUp_reconnectAttempts : (s.linkUp).reconnectAttempts = s.reconnectAttempts := rfl
@[simp] theorem State.linkUp_fault : (s.linkUp).fault = s.fault := rfl
@[simp] theorem State.linkUp_lastStatus : (s.linkUp).lastStatus = s.lastStatus := rfl
@[simp] theorem State.linkUp_lastAck : (s.linkUp).lastAck = s.lastAck := rfl
@[simp] theorem State.linkUp_ackRaw0 : (s.linkUp).ackRaw0 = s.ackRaw0 := rfl
@[simp] theorem State.linkUp_ackRaw1 : (s.linkUp).ackRaw1 = s.ackRaw1 := rfl
@[simp] theorem State.linkUp_chkStatus : (s.linkUp).chkStatus = s.chkStatus := rfl
@[simp] theorem State.linkUp_chkSum : (s.linkUp).chkSum = s.chkSum := rfl
@[simp] theorem State.linkUp_cmd : (s.linkUp).cmd = s.cmd := rfl
@[simp] theorem State.linkUp_snapshot : (s.linkUp).snapshot = s.snapshot := rfl
@[simp] theorem State.linkUp_ack0 : (s.linkUp).ack0 = s.ack0 := rfl
@[simp] theorem State.linkUp_rsp : (s.linkUp).rsp = s.rsp := rfl
@[simp] theorem State.linkUp_frameOut : (s.linkUp).frameOut = s.frameOut := rfl
@[simp] theorem State.linkUp_logOut : (s.linkUp).logOut = s.logOut := rfl
@[simp] theorem State.linkUp_txTrace : (s.linkUp).txTrace = s.txTrace := rfl
@[simp] theorem State.linkUp_rstIn : (s.linkUp).rstIn = s.rstIn := rfl
@[simp] theorem State.linkUp_cmdIn : (s.linkUp).cmdIn = s.cmdIn := rfl
@[simp] theorem State.linkUp_openIn : (s.linkUp).openIn = s.openIn := rfl
@[simp] theorem State.linkUp_writeIn : (s.linkUp).writeIn = s.writeIn := rfl
@[simp] theorem State.linkUp_readIn : (s.linkUp).readIn = s.readIn := rfl
@[simp] theorem State.linkUp_oracleIx : (s.linkUp).oracleIx = s.oracleIx := rfl

end

/-! ### report -/

section
variable (s : State)

@[simp] theorem State.report_cfg (v : Vector Nat 16) (c : ChkStatus) : (s.report v c).cfg = s.cfg := rfl
@[simp] theorem State.report_buf (v : Vector Nat 16) (c : ChkStatus) : (s.report v c).buf = s.buf := rfl
@[simp] theorem State.report_state (v : Vector Nat 16) (c : ChkStatus) : (s.report v c).state = s.state := rfl
@[simp] theorem State.report_handleOpen (v : Vector Nat 16) (c : ChkStatus) : (s.report v c).handleOpen = s.handleOpen := rfl
@[simp] theorem State.report_reconnectAttempts (v : Vector Nat 16) (c : ChkStatus) : (s.report v c).reconnectAttempts = s.reconnectAttempts := rfl
@[simp] theorem State.report_fault (v : Vector Nat 16) (c : ChkStatus) : (s.report v c).fault = s.fault := rfl
@[simp] theorem State.report_lastStatus (v : Vector Nat 16) (c : ChkStatus) : (s.report v c).lastStatus = s.lastStatus := rfl
@[simp] theorem State.report_lastAck (v : Vector Nat 16) (c : ChkStatus) : (s.report v c).lastAck = s.lastAck := rfl
@[simp] theorem State.report_ackRaw0 (v : Vector Nat 16) (c : ChkStatus) : (s.report v c).ackRaw0 = s.ackRaw0 := rfl
@[simp] theorem State.report_ackRaw1 (v : Vector Nat 16) (c : ChkStatus) : (s.report v c).ackRaw1 = s.ackRaw1 := rfl
@[simp] theorem State.report_chkStatus (v : Vector Nat 16) (c : ChkStatus) : (s.report v c).chkStatus = c := rfl
@[simp] theorem State.report_chkSum (v : Vector Nat 16) (c : ChkStatus) : (s.report v c).chkSum = sumRegisters v := rfl
@[simp] theorem State.report_cmd (v : Vector Nat 16) (c : ChkStatus) : (s.report v c).cmd = s.cmd := rfl
@[simp] theorem State.report_snapshot (v : Vector Nat 16) (c : ChkStatus) : (s.report v c).snapshot = s.snapshot := rfl
@[simp] theorem State.report_ack0 (v : Vector Nat 16) (c : ChkStatus) : (s.report v c).ack0 = s.ack0 := rfl
@[simp] theorem State.report_rsp (v : Vector Nat 16) (c : ChkStatus) : (s.report v c).rsp = s.rsp := rfl
@[simp] theorem State.report_frameOut (v : Vector Nat 16) (c : ChkStatus) : (s.report v c).frameOut = s.frameOut := rfl
@[simp] theorem State.report_logOut (v : Vector Nat 16) (c : ChkStatus) : (s.report v c).logOut = s.logOut := rfl
@[simp] theorem State.report_txTrace (v : Vector Nat 16) (c : ChkStatus) : (s.report v c).txTrace = s.txTrace := rfl
@[simp] theorem State.report_rstIn (v : Vector Nat 16) (c : ChkStatus) : (s.report v c).rstIn = s.rstIn := rfl
@[simp] theorem State.report_cmdIn (v : Vector Nat 16) (c : ChkStatus) : (s.report v c).cmdIn = s.cmdIn := rfl
@[simp] theorem State.report_openIn (v : Vector Nat 16) (c : ChkStatus) : (s.report v c).openIn = s.openIn := rfl
@[simp] theorem State.report_writeIn (v : Vector Nat 16) (c : ChkStatus) : (s.report v c).writeIn = s.writeIn := rfl
@[simp] theorem State.report_readIn (v : Vector Nat 16) (c : ChkStatus) : (s.report v c).readIn = s.readIn := rfl
@[simp] theorem State.report_oracleIx (v : Vector Nat 16) (c : ChkStatus) : (s.report v c).oracleIx = s.oracleIx := rfl

end

end Sys2Proof.Machine
end

