-- ==== Sys2Proof/Laws/Ops.lean ====
section
/-! SUPPORT. What each shared operation does, once: closing the handle, fault entry, the bulk buffer write, the Transport's answers,
and the one thing a step can do in each state. -/

namespace Sys2Proof.Machine

/-! ### The handle and fault entry -/

theorem FaultCode.orFirst_eq (old new : FaultCode) : old.orFirst new = if old = .none then new else old := by
  cases old <;> rfl

@[simp] theorem FaultCode.orFirst_none (new : FaultCode) : FaultCode.orFirst .none new = new := rfl

theorem FaultCode.orFirst_of_ne {old : FaultCode} (h : old ≠ .none) (new : FaultCode) : old.orFirst new = old := by
  rw [FaultCode.orFirst_eq, if_neg h]

theorem FaultCode.orFirst_ne_none {new : FaultCode} (h : new ≠ .none) (old : FaultCode) : old.orFirst new ≠ .none := by
  cases old <;> simp_all [FaultCode.orFirst]

theorem State.closeIfOpen_eq (s : State) :
    s.closeIfOpen = { s with
      txTrace := bif s.handleOpen then s.txTrace ++ [.closeReq] else s.txTrace, handleOpen := false } := by
  cases s with
  | mk cfg buf state handleOpen => cases handleOpen <;> rfl

theorem State.respondFaulted_of_none {s : State} (h : s.cmd = none) : s.respondFaulted = s := by
  simp [State.respondFaulted, h]

theorem State.respondFaulted_of_some {s : State} {i : Instr} (h : s.cmd = some i) :
    s.respondFaulted = s.respond .faulted .none none := by
  simp [State.respondFaulted, h]

/-- Fault entry always ends in `FAILED` with the handle closed (60 R203). -/
@[simp] theorem State.raiseFault_state (s : State) (c : FaultCode) : (s.raiseFault c).state = .failed := by
  unfold State.raiseFault State.respondFaulted
  split <;> simp

@[simp] theorem State.raiseFault_handleOpen (s : State) (c : FaultCode) : (s.raiseFault c).handleOpen = false := by
  unfold State.raiseFault State.respondFaulted
  split <;> simp [State.closeIfOpen_eq]

@[simp] theorem State.raiseFault_fault (s : State) (c : FaultCode) :
    (s.raiseFault c).fault = s.fault.orFirst c := by
  unfold State.raiseFault State.respondFaulted
  split <;> simp [State.closeIfOpen_eq]

@[simp] theorem State.raiseFault_cmd (s : State) (c : FaultCode) : (s.raiseFault c).cmd = none := by
  unfold State.raiseFault State.respondFaulted
  split <;> simp_all [State.closeIfOpen_eq]

@[simp] theorem State.raiseFault_txTrace (s : State) (c : FaultCode) :
    (s.raiseFault c).txTrace = bif s.handleOpen then s.txTrace ++ [.closeReq] else s.txTrace := by
  unfold State.raiseFault State.respondFaulted
  split <;> simp [State.closeIfOpen_eq]

/-- `rst` is low where its samples are, and past the end of the list (log 5). -/
theorem State.rstAsserted_of_low {s : State} (h : ∀ b ∈ s.rstIn, b = .low) : s.rstAsserted = false := by
  unfold State.rstAsserted
  cases hl : s.rstIn with
  | nil => rfl
  | cons b l => simp [h b (by simp [hl])]

/-- What a reset puts on record at the Transport port: its mark, and one close where the handle was open (70 R232). -/
@[simp] theorem applyReset_txTrace (r : Option TxRequest) (s : State) :
    (applyReset r s).txTrace = s.txTrace ++ .rst r :: bif s.handleOpen then [.closeReq] else [] := by
  cases h : s.handleOpen <;> simp [applyReset, State.closeIfOpen_eq, h]

/-- What a reset can leave without an answer, and in which state: nothing, the open, the write of the reset command, the write of
the frame, a read. -/
theorem State.cutRequest_cases (s : State) :
    s.cutRequest = none ∨
    ((s.state = .opening ∨ s.state = .reconnecting) ∧ s.cutRequest = some (.txOpen s.cfg.port s.cfg.baud)) ∨
    (s.state = .resetting ∧ s.cutRequest = some (.txWrite resetCommand)) ∨
    (s.state = .sending ∧ s.overflows = false ∧ s.cutRequest = some (.txWrite (frame s.buf))) ∨
    (s.state = .awaitingAck ∧ s.cutRequest = some (.txRead (if s.ack0.isSome then ackTimeout1 else ackTimeout0))) := by
  unfold State.cutRequest State.requestOfStep
  split
  · cases s.state <;> cases s.overflows <;> simp
  · exact .inl rfl

/-- What fault entry leaves alone in every state. -/
theorem State.raiseFault_frame (s : State) (c : FaultCode) :
    (s.raiseFault c).cfg = s.cfg ∧ (s.raiseFault c).buf = s.buf ∧
    (s.raiseFault c).reconnectAttempts = s.reconnectAttempts ∧ (s.raiseFault c).lastAck = s.lastAck ∧
    (s.raiseFault c).ackRaw0 = s.ackRaw0 ∧ (s.raiseFault c).ackRaw1 = s.ackRaw1 ∧
    (s.raiseFault c).chkStatus = s.chkStatus ∧ (s.raiseFault c).chkSum = s.chkSum ∧
    (s.raiseFault c).frameOut = s.frameOut ∧ (s.raiseFault c).logOut = s.logOut ∧
    (s.raiseFault c).rstIn = s.rstIn ∧ (s.raiseFault c).cmdIn = s.cmdIn ∧ (s.raiseFault c).openIn = s.openIn ∧
    (s.raiseFault c).writeIn = s.writeIn ∧ (s.raiseFault c).readIn = s.readIn ∧
    (s.raiseFault c).oracleIx = s.oracleIx := by
  unfold State.raiseFault State.respondFaulted
  split <;> simp [State.closeIfOpen_eq]

/-- Logging first changes nothing but the log of a fault entry. -/
theorem State.raiseFault_log (s : State) (e : LogEvent) (c : FaultCode) :
    (s.log e).raiseFault c = { s.raiseFault c with logOut := s.logOut ++ [e] } := by
  cases s with
  | mk cfg buf state handleOpen a b d f g i j k cmd => cases handleOpen <;> cases cmd <;> rfl

/-- The capacity check, in numbers. -/
theorem State.overflows_iff (s : State) : s.overflows = true ↔ s.cfg.frameCapacity < 290 := by
  rw [State.overflows, decide_eq_true_iff]
  rfl

theorem State.overflows_false_iff (s : State) : s.overflows = false ↔ 290 ≤ s.cfg.frameCapacity := by
  rw [← Bool.not_eq_true, State.overflows_iff, Nat.not_lt]

/-- A failed capacity check is a fault entry with one record logged before it. -/
theorem State.overflowFault_frame (s : State) :
    s.overflowFault.cfg = s.cfg ∧ s.overflowFault.buf = s.buf ∧ s.overflowFault.state = .failed ∧
    s.overflowFault.handleOpen = false ∧ s.overflowFault.reconnectAttempts = s.reconnectAttempts ∧
    s.overflowFault.fault = s.fault.orFirst .bufferOverflow ∧ s.overflowFault.lastAck = s.lastAck ∧
    s.overflowFault.ackRaw0 = s.ackRaw0 ∧ s.overflowFault.ackRaw1 = s.ackRaw1 ∧
    s.overflowFault.chkStatus = s.chkStatus ∧ s.overflowFault.chkSum = s.chkSum ∧ s.overflowFault.cmd = none ∧
    s.overflowFault.frameOut = s.frameOut ∧
    s.overflowFault.logOut = s.logOut ++ [.bufferOverflow frameLen s.cfg.frameCapacity] ∧
    s.overflowFault.txTrace = (bif s.handleOpen then s.txTrace ++ [.closeReq] else s.txTrace) ∧
    s.overflowFault.rstIn = s.rstIn ∧ s.overflowFault.cmdIn = s.cmdIn ∧ s.overflowFault.openIn = s.openIn ∧
    s.overflowFault.writeIn = s.writeIn ∧ s.overflowFault.readIn = s.readIn ∧ s.overflowFault.oracleIx = s.oracleIx := by
  have h := (s.log (.bufferOverflow frameLen s.cfg.frameCapacity)).raiseFault_frame .bufferOverflow
  simp [State.overflowFault, h]

/-- What fault entry leaves of the hidden state of a command: nothing, where there was a command or no hidden state. -/
theorem State.raiseFault_hidden {s : State} (c : FaultCode) (h : s.cmd = none → s.snapshot = none ∧ s.ack0 = none) :
    (s.raiseFault c).snapshot = none ∧ (s.raiseFault c).ack0 = none := by
  unfold State.raiseFault State.respondFaulted
  split
  next hc => simp
  next hc =>
    have hn : s.cmd = none := by simpa [State.closeIfOpen_eq] using hc
    simpa [State.closeIfOpen_eq] using h hn

/-- The response that fault entry leaves on the port. -/
theorem State.raiseFault_rsp (s : State) (c : FaultCode) :
    (s.raiseFault c).rsp = (if s.cmd.isSome then some (packResponse .faulted .none none) else s.rsp) ∧
    (s.raiseFault c).lastStatus = (if s.cmd.isSome then .faulted else s.lastStatus) := by
  cases hc : s.cmd <;> simp [State.raiseFault, State.respondFaulted, State.closeIfOpen_eq, hc]

/-! ### The Pixel Buffer -/

/-- The bulk write sets exactly the entries of its range. -/
@[simp] theorem fillBuffer_get (b : Vector Intensity 144) (lo n : Nat) (v : Intensity) (j : Nat) (hj : j < 144) :
    (fillBuffer b lo n v)[j] = if lo ≤ j ∧ j < lo + n then v else b[j] := by
  unfold fillBuffer
  induction n with
  | zero =>
    have h : ¬ (lo ≤ j ∧ j < lo) := by omega
    simp [h]
  | succ n ih =>
    simp only [List.range_succ, List.foldl_append, List.foldl_cons, List.foldl_nil, Vector.getElem_setIfInBounds, ih]
    by_cases h : lo + n = j
    · have h' : lo ≤ j ∧ j < lo + (n + 1) := by omega
      simp [h, h']
    · have h' : (lo ≤ j ∧ j < lo + (n + 1)) ↔ (lo ≤ j ∧ j < lo + n) := by omega
      simp [h, h']

/-- Filling a range twice with one value is filling it once. -/
@[simp] theorem fillBuffer_fillBuffer (b : Vector Intensity 144) (lo n : Nat) (v : Intensity) :
    fillBuffer (fillBuffer b lo n v) lo n v = fillBuffer b lo n v := by
  apply Vector.ext
  intro i hi
  simp only [fillBuffer_get]
  split <;> rfl

/-! ### The Transport's answers -/

@[simp] theorem State.openAnswer_cons {s : State} {a : TxResult} {l : List TxResult} (h : s.openIn = a :: l) :
    s.openAnswer = a := by simp [State.openAnswer, h]

@[simp] theorem State.writeAnswer_cons {s : State} {a : TxResult} {l : List TxResult} (h : s.writeIn = a :: l) :
    s.writeAnswer = a := by simp [State.writeAnswer, h]

@[simp] theorem State.readAnswer_cons {s : State} {a : ReadAnswer} {l : List ReadAnswer} (h : s.readIn = a :: l) :
    s.readAnswer = a := by simp [State.readAnswer, h]

@[simp] theorem State.tick_openAnswer (s : State) : s.tick.openAnswer = s.openAnswer := rfl
@[simp] theorem State.tick_writeAnswer (s : State) : s.tick.writeAnswer = s.writeAnswer := rfl
@[simp] theorem State.tick_readAnswer (s : State) : s.tick.readAnswer = s.readAnswer := rfl

end Sys2Proof.Machine
end

