-- ==== Sys2Proof/Laws/Flags.lean ====
section
/-! SUPPORT. The fields of a response word, the record of an acknowledgment, and the attempt counter. -/

namespace Sys2Proof.Machine

/-! ### The response word -/

theorem packResponse_toNat (status : Status) (ack : AckClass) (slot : Option Slot) :
    (packResponse status ack slot).toNat =
      status.code.toNat * 2 ^ 28 + ack.code.toNat * 2 ^ 24 + (packSlot slot).toNat := by
  have h := (packSlot slot).isLt
  have h' := ack.code.isLt
  simp only [packResponse, BitVec.toNat_append, Nat.shiftLeft_eq]
  rw [Nat.mul_comm _ (2 ^ 24), ← Nat.two_pow_add_eq_or_of_lt h, Nat.mul_comm _ (2 ^ (4 + 24)),
    ← Nat.two_pow_add_eq_or_of_lt (by omega)]
  omega

/-- The STATUS field of a response is the status it was made with. -/
@[simp] theorem packResponse_status (status : Status) (ack : AckClass) (slot : Option Slot) :
    (packResponse status ack slot).extractLsb' 28 4 = status.code := by
  have h := (packSlot slot).isLt
  have h' := ack.code.isLt
  have h'' := status.code.isLt
  apply BitVec.eq_of_toNat_eq
  rw [extract_toNat, packResponse_toNat]
  omega

/-- The ACK field of a response is the class it was made with. -/
@[simp] theorem packResponse_ack (status : Status) (ack : AckClass) (slot : Option Slot) :
    (packResponse status ack slot).extractLsb' 24 4 = ack.code := by
  have h := (packSlot slot).isLt
  have h' := ack.code.isLt
  have h'' := status.code.isLt
  apply BitVec.eq_of_toNat_eq
  rw [extract_toNat, packResponse_toNat]
  omega

/-! ### The acknowledgment -/

/-- The record of an acknowledgment is appended, or there is none. -/
theorem State.logAck_eq (s : State) (c : AckClass) :
    s.logAck c = { s with logOut := s.logOut ++ (ackEvent c s.ackRaw0 s.ackRaw1).toList } := by
  unfold State.logAck
  split <;> simp_all [State.log]

/-! ### The attempt counter -/

/-- The counter of 10 R26 as a number. -/
theorem saturatingSucc_toNat (n : BitVec 32) : (saturatingSucc n).toNat = min (n.toNat + 1) 0xFFFFFFFF := by
  have hlt := n.isLt
  unfold saturatingSucc
  split
  next h => subst h; rfl
  next h =>
    have h' : n.toNat ≠ 0xFFFFFFFF := fun e => h (BitVec.eq_of_toNat_eq e)
    rw [BitVec.toNat_add]
    simp only [BitVec.toNat_ofNat]
    omega

end Sys2Proof.Machine
end

