-- ==== Sys2Proof/Laws/Frame.lean ====
section
/-! SUPPORT. The bytes of a frame by their offsets: lemmas about lists of intensities, from which the layout follows. -/

namespace Sys2Proof.Machine

/-- Two bytes for each intensity. -/
theorem length_intensityBytes (l : List Intensity) : (l.flatMap intensityBytes).length = 2 * l.length := by
  induction l with
  | nil => rfl
  | cons v l ih => simp only [List.flatMap_cons, List.length_append, ih, List.length_cons]; simp [intensityBytes]; omega

/-- The high byte of the intensity number `i` stands at offset `2·i`, the low byte after it. -/
theorem getElem_intensityBytes (l : List Intensity) (i : Nat) :
    (l.flatMap intensityBytes)[2 * i]? = l[i]?.map hi8 ∧ (l.flatMap intensityBytes)[2 * i + 1]? = l[i]?.map lo8 := by
  induction l generalizing i with
  | nil => simp
  | cons v l ih =>
    cases i with
    | zero => simp [intensityBytes]
    | succ i => simpa [intensityBytes, Nat.mul_add] using ih i

/-- The bytes of a frame: two sync bytes, and every later byte a byte of the entry its offset names. -/
theorem frame_getElem (b : Vector Intensity 144) (i : Nat) :
    (frame b)[2 + 2 * i]? = b[i]?.map hi8 ∧ (frame b)[3 + 2 * i]? = b[i]?.map lo8 := by
  have h := getElem_intensityBytes b.toList i
  have e : 3 + 2 * i = 2 * i + 1 + 2 := by omega
  have e' : 2 + 2 * i = 2 * i + 2 := by omega
  simpa [frame, syncBytes, e, e'] using h

end Sys2Proof.Machine
end

