-- ==== Sys2Proof/Laws/PerInstr.lean ====
section
/-! SUPPORT. One family of statements with a lemma for each constructor of `Instr`: the word of a command matches the command's own
row of the opcode table, and that row stands in the table. -/

namespace Sys2Proof.Laws.OpcodeRow

/-- The word of `i` has the fixed bits of the row of `i` (`30_encoding.md` rules R73, R75, `spec/opcode_table.json`). -/
def Statement (i : Instr) : Prop :=
  opcodeRowOf i ∈ opcodeTable ∧ encode i &&& (opcodeRowOf i).mask = (opcodeRowOf i).value

theorem resolve (x y : Nat) : Statement (.resolve x y) := by
  refine ⟨by simp [opcodeRowOf, opcodeTable], ?_⟩
  apply BitVec.eq_of_getLsbD_eq
  intro k hk
  simp only [encode, packCommand, opcodeRowOf, BitVec.getLsbD_and, BitVec.getLsbD_append]
  interval_cases k <;> simp

theorem setPixel (x y : Nat) (v : Intensity) : Statement (.setPixel x y v) := by
  refine ⟨by simp [opcodeRowOf, opcodeTable], ?_⟩
  apply BitVec.eq_of_getLsbD_eq
  intro k hk
  simp only [encode, packCommand, opcodeRowOf, BitVec.getLsbD_and, BitVec.getLsbD_append]
  interval_cases k <;> simp

theorem setAll (v : Intensity) : Statement (.setAll v) := by
  refine ⟨by simp [opcodeRowOf, opcodeTable], ?_⟩
  apply BitVec.eq_of_getLsbD_eq
  intro k hk
  simp only [encode, packCommand, opcodeRowOf, BitVec.getLsbD_and, BitVec.getLsbD_append]
  interval_cases k <;> simp

theorem setChipGroup (c : Nat) (v : Intensity) : Statement (.setChipGroup c v) := by
  refine ⟨by simp [opcodeRowOf, opcodeTable], ?_⟩
  apply BitVec.eq_of_getLsbD_eq
  intro k hk
  simp only [encode, packCommand, opcodeRowOf, BitVec.getLsbD_and, BitVec.getLsbD_append]
  interval_cases k <;> simp

theorem serialize : Statement .serialize := ⟨by decide, by decide⟩

theorem send : Statement .send := ⟨by decide, by decide⟩

theorem close : Statement .close := ⟨by decide, by decide⟩

end Sys2Proof.Laws.OpcodeRow
end

