-- ==== Sys2Proof/Laws/Step.lean ====
section
/-! SUPPORT. What one step can do, said once: the cases of a command word, and the cases of a step. An invariant is proved by
cases on `StepCase`, never by unfolding `step`. -/

namespace Sys2Proof.Machine

/-- The outcomes of an accepted command word: `r` is the state after it, `s` the state in which the word has left the port. -/
inductive CommandCase (w : Word) (s : State) : State → Prop
  | notReady (h : s.state = .failed ∨ s.state = .closed) : CommandCase w s (s.respond .notReady .none none)
  | illegal (e : DecodeError) (h : s.state ≠ .failed ∧ s.state ≠ .closed) (hd : decode w = .error e) :
    CommandCase w s (s.respond .illegalCommand .none none)
  | resolveOut (x y : Nat) (h : s.state ≠ .failed ∧ s.state ≠ .closed) (hd : decode w = .ok (.resolve x y))
    (hk : s.cfg.table.resolve x y = none) :
    CommandCase w s ((s.beginCommand (.resolve x y)).respond .outOfRange .none none)
  | resolveIn (x y : Nat) (k : Slot) (h : s.state ≠ .failed ∧ s.state ≠ .closed) (hd : decode w = .ok (.resolve x y))
    (hk : s.cfg.table.resolve x y = some k) :
    CommandCase w s ((s.beginCommand (.resolve x y)).respond .ok .none (some k))
  | setPixelOut (x y : Nat) (v : Intensity) (h : s.state ≠ .failed ∧ s.state ≠ .closed)
    (hd : decode w = .ok (.setPixel x y v)) (hk : s.cfg.table.resolve x y = none) :
    CommandCase w s ((s.beginCommand (.setPixel x y v)).respond .outOfRange .none none)
  | setPixelIn (x y : Nat) (v : Intensity) (k : Slot) (h : s.state ≠ .failed ∧ s.state ≠ .closed)
    (hd : decode w = .ok (.setPixel x y v)) (hk : s.cfg.table.resolve x y = some k) :
    CommandCase w s (((s.beginCommand (.setPixel x y v)).writeSlot k.index v).respond .ok .none (some k))
  | setAll (v : Intensity) (h : s.state ≠ .failed ∧ s.state ≠ .closed) (hd : decode w = .ok (.setAll v)) :
    CommandCase w s (((s.beginCommand (.setAll v)).fillSlots 0 144 v).respond .ok .none none)
  | chipGroup (k : Nat) (v : Intensity) (h : s.state ≠ .failed ∧ s.state ≠ .closed)
    (hd : decode w = .ok (.setChipGroup k v)) (hk : k < 3) :
    CommandCase w s (((s.beginCommand (.setChipGroup k v)).fillSlots (48 * k) 48 v).respond .ok .none none)
  | chipGroupOut (k : Nat) (v : Intensity) (h : s.state ≠ .failed ∧ s.state ≠ .closed)
    (hd : decode w = .ok (.setChipGroup k v)) (hk : ¬ k < 3) :
    CommandCase w s ((s.beginCommand (.setChipGroup k v)).respond .invalidChip .none none)
  | serializeOverflow (h : s.state ≠ .failed ∧ s.state ≠ .closed) (hd : decode w = .ok .serialize)
    (ho : s.overflows = true) : CommandCase w s (s.beginCommand .serialize).overflowFault
  | serialize (h : s.state ≠ .failed ∧ s.state ≠ .closed) (hd : decode w = .ok .serialize) (ho : s.overflows = false) :
    CommandCase w s (((s.beginCommand .serialize).emitFrame (frame s.buf)).respond .ok .none none)
  | send (h : s.state ≠ .failed ∧ s.state ≠ .closed) (hd : decode w = .ok .send) :
    CommandCase w s ((s.beginCommand .send).goto .sending)
  | close (h : s.state ≠ .failed ∧ s.state ≠ .closed) (hd : decode w = .ok .close) :
    CommandCase w s (((s.beginCommand .close).txClose.goto .closed).respond .ok .none none)

/-- An accepted command word always answers a next state, one of `CommandCase`. -/
theorem runCommandWord_next (w : Word) (s : State) : ∃ t, runCommandWord w s = .next t ∧ CommandCase w s t := by
  unfold runCommandWord
  split
  next h => exact ⟨_, rfl, .notReady h⟩
  next h =>
    rw [not_or] at h
    split
    next e hd => exact ⟨_, rfl, .illegal e h hd⟩
    next i hd =>
      cases i with
      | resolve x y =>
        simp only [exec, execResolve, State.beginCommand_cfg]
        split
        next hk => exact ⟨_, rfl, .resolveOut x y h hd hk⟩
        next k hk => exact ⟨_, rfl, .resolveIn x y k h hd hk⟩
      | setPixel x y v =>
        simp only [exec, execSetPixel, State.beginCommand_cfg]
        split
        next hk => exact ⟨_, rfl, .setPixelOut x y v h hd hk⟩
        next k hk => exact ⟨_, rfl, .setPixelIn x y v k h hd hk⟩
      | setAll v => exact ⟨_, rfl, .setAll v h hd⟩
      | setChipGroup k v =>
        simp only [exec, execSetChipGroup]
        split
        next hk => exact ⟨_, rfl, .chipGroup k v h hd hk⟩
        next hk => exact ⟨_, rfl, .chipGroupOut k v h hd hk⟩
      | serialize =>
        simp only [exec, execSerialize]
        split
        next ho => exact ⟨_, rfl, .serializeOverflow h hd ho⟩
        next ho => exact ⟨_, rfl, .serialize h hd (Bool.eq_false_iff.mpr ho)⟩
      | send => exact ⟨_, rfl, .send h hd⟩
      | close => exact ⟨_, rfl, .close h hd⟩

/-- The outcomes of one step of the block from `s`. -/
inductive StepCase (s : State) : State → Prop
  | reset (h : s.rstAsserted = true) : StepCase s (applyReset s.cutRequest s.tick)
  | start (h : s.rstAsserted = false) (hs : s.state = .disconnected) : StepCase s (startConstruction s.tick)
  | validating (h : s.rstAsserted = false) (hs : s.state = .validating) : StepCase s (validatingStep s.tick)
  | opening (h : s.rstAsserted = false) (hs : s.state = .opening) : StepCase s (openingStep s.tick)
  | resetting (h : s.rstAsserted = false) (hs : s.state = .resetting) : StepCase s (resettingStep s.tick)
  | reconnecting (h : s.rstAsserted = false) (hs : s.state = .reconnecting) : StepCase s (reconnectingStep s.tick)
  | sending (h : s.rstAsserted = false) (hs : s.state = .sending) : StepCase s (sendingStep s.tick)
  | awaiting (h : s.rstAsserted = false) (hs : s.state = .awaitingAck) : StepCase s (awaitingAckStep s.tick)
  | idle (h : s.rstAsserted = false) (hs : s.state = .connected ∨ s.state = .failed ∨ s.state = .closed)
    (hc : s.cmdIn = [] ∨ s.cmd ≠ none) : StepCase s s.tick
  | command (w : Word) (rest : List Word) (t : State) (h : s.rstAsserted = false)
    (hs : s.state = .connected ∨ s.state = .failed ∨ s.state = .closed) (hc : s.cmdIn = w :: rest) (hn : s.cmd = none)
    (ht : CommandCase w { s.tick with cmdIn := rest } t) : StepCase s t

theorem commandStep_next (s : State) (h : s.rstAsserted = false)
    (hs : s.state = .connected ∨ s.state = .failed ∨ s.state = .closed) :
    ∃ t, commandStep s.tick = .next t ∧ StepCase s t := by
  have hr : s.tick.cmdReady = s.cmd.isNone := by
    unfold State.cmdReady
    rcases hs with hs | hs | hs <;> simp [hs]
  unfold commandStep
  split
  next hc => exact ⟨_, rfl, .idle h hs (.inl hc)⟩
  next w rest hc =>
    rw [hr]
    cases hn : s.cmd with
    | none =>
      obtain ⟨t, ht, hcase⟩ := runCommandWord_next w { s.tick with cmdIn := rest }
      exact ⟨t, by simpa using ht, .command w rest t h hs hc hn hcase⟩
    | some i => exact ⟨_, by simp, .idle h hs (.inr (by simp [hn]))⟩

/-- Every step answers a next state, one of `StepCase`. -/
theorem step_next (s : State) : ∃ t, step s = .next t ∧ StepCase s t := by
  unfold step blockStep
  cases h : s.rstAsserted with
  | true => exact ⟨_, by simp, .reset h⟩
  | false =>
    simp only [Bool.false_eq_true, if_false, handshakeStep, State.tick_state]
    cases hs : s.state with
    | disconnected => exact ⟨_, rfl, .start h hs⟩
    | validating => exact ⟨_, rfl, .validating h hs⟩
    | opening => exact ⟨_, rfl, .opening h hs⟩
    | resetting => exact ⟨_, rfl, .resetting h hs⟩
    | reconnecting => exact ⟨_, rfl, .reconnecting h hs⟩
    | connected => exact commandStep_next s h (.inl hs)
    | sending => exact ⟨_, rfl, .sending h hs⟩
    | awaitingAck => exact ⟨_, rfl, .awaiting h hs⟩
    | failed => exact commandStep_next s h (.inr (.inl hs))
    | closed => exact commandStep_next s h (.inr (.inr hs))

/-- Inversion: the next state of a step is one of `StepCase`. -/
theorem step_cases {s t : State} (h : step s = .next t) : StepCase s t := by
  obtain ⟨t', ht, hc⟩ := step_next s
  rw [ht] at h
  cases h
  exact hc

end Sys2Proof.Machine
end

