-- ==== Sys2Proof/Laws/Safety.lean ====
section
/-! SUPPORT. Small lemmas about the terms of `Safety.lean`: where the handle is held, the phases of an exchange, runs. -/

namespace Sys2Proof.Machine

/-! ### The states of the order of construction -/

@[simp] theorem firstState_holdsHandle (o : InitOrder) : (firstState o).holdsHandle o = false := by cases o <;> rfl
@[simp] theorem linkUpState_holdsHandle (o : InitOrder) : (linkUpState o).holdsHandle o = true := by cases o <;> rfl

/-- A validation that passes keeps the handle as it is: no order of construction opens or closes it there. -/
@[simp] theorem validatedState_holdsHandle (o : InitOrder) :
    (validatedState o).holdsHandle o = HState.validating.holdsHandle o := by cases o <;> rfl

/-- `LINKUP` goes where 43 R168 says. -/
theorem linkUpState_eq (o : InitOrder) : linkUpState o = linkUpTarget o := by cases o <;> rfl

theorem firstState_cases (o : InitOrder) : firstState o = .validating ∨ firstState o = .opening := by
  cases o <;> simp [firstState]

theorem linkUpState_cases (o : InitOrder) : linkUpState o = .connected ∨ linkUpState o = .validating := by
  cases o <;> simp [linkUpState]

theorem validatedState_cases (o : InitOrder) : validatedState o = .opening ∨ validatedState o = .connected := by
  cases o <;> simp [validatedState]

/-! ### The exchange -/

@[simp] theorem phaseAfter_nil : phaseAfter [] = some .noHandle := rfl

/-- One more request: its phase comes from the phase before it. -/
@[simp] theorem phaseAfter_append (trace : List TxEvent) (e : TxEvent) :
    phaseAfter (trace ++ [e]) = (phaseAfter trace).bind fun p => p.next e := by simp [phaseAfter]

/-- A whole continuation: its phases go on from the phase before it. -/
theorem phaseAfter_append_list (trace more : List TxEvent) :
    phaseAfter (trace ++ more) = more.foldl (fun p e => p.bind fun q => q.next e) (phaseAfter trace) := by simp [phaseAfter]

@[simp] theorem writesOf_append (trace more : List TxEvent) : writesOf (trace ++ more) = writesOf trace ++ writesOf more := by
  simp [writesOf]

/-- The frame of a buffer has the form of a frame. -/
@[simp] theorem isFrame_frame (b : Vector Intensity 144) : isFrame (frame b) = true := by
  have h := length_intensityBytes b.toList
  rw [Vector.length_toList] at h
  simp only [isFrame, frame, syncBytes, List.length_append, h]
  simp

@[simp] theorem isBlockWrite_frame (b : Vector Intensity 144) : isBlockWrite (frame b) = true := by simp [isBlockWrite]

@[simp] theorem isBlockWrite_resetCommand : isBlockWrite resetCommand = true := rfl

/-- A frame is not the reset command. -/
theorem frame_ne_resetCommand (b : Vector Intensity 144) : frame b ≠ [0x52#8, 0x54#8] := by simp [frame, syncBytes]

/-! ### The wire -/

@[simp] theorem mayBeOnWire_nil (wire : List Byte) : mayBeOnWire [] wire ↔ wire = [] := Iff.rfl

@[simp] theorem mayBeOnWire_cons (e : TxEvent) (more : List TxEvent) (wire : List Byte) :
    mayBeOnWire (e :: more) wire ↔ ∃ piece rest, wire = piece ++ rest ∧ mayPutOut e more piece ∧ mayBeOnWire more rest :=
  Iff.rfl

@[simp] theorem mayPutOut_write_ok (bytes : List Byte) (more : List TxEvent) (piece : List Byte) :
    mayPutOut (.writeReq bytes .ok) more piece ↔ if resetsInAck more then ∃ n, piece = bytes.take n else piece = bytes := Iff.rfl

@[simp] theorem mayPutOut_write_error (bytes : List Byte) (more : List TxEvent) (piece : List Byte) :
    mayPutOut (.writeReq bytes .error) more piece ↔ ∃ n, piece = bytes.take n := Iff.rfl

@[simp] theorem mayPutOut_rst_write (bytes : List Byte) (more : List TxEvent) (piece : List Byte) :
    mayPutOut (.rst (some (.txWrite bytes))) more piece ↔ ∃ n, piece = bytes.take n := Iff.rfl

/-- An event that writes nothing puts out nothing. -/
theorem mayPutOut_of_no_write {e : TxEvent} (h : writesOf [e] = []) (more : List TxEvent) (piece : List Byte) :
    mayPutOut e more piece ↔ piece = [] := by
  match e, h with
  | .openReq _ _ _, _ => rfl
  | .readReq _ _, _ => rfl
  | .closeReq, _ => rfl
  | .rst none, _ => rfl
  | .rst (some (.txOpen _ _)), _ => rfl
  | .rst (some (.txRead _)), _ => rfl

/-- What an event puts out depends on what follows it only through a reset in its `AWAITING_ACK`. -/
theorem mayPutOut_congr {more more' : List TxEvent} (h : resetsInAck more = resetsInAck more') (e : TxEvent)
    (piece : List Byte) : mayPutOut e more piece ↔ mayPutOut e more' piece := by
  simp only [mayPutOut, h]

/-- Whether a reset came in `AWAITING_ACK` is settled by what follows the write, so a later event that is no such reset does not
change it. -/
theorem resetsInAck_append {e : TxEvent} (h : e.isResetInAck = false) (l : List TxEvent) :
    resetsInAck (l ++ [e]) = resetsInAck l := by
  match l with
  | [] => cases e <;> first | rfl | exact h
  | [x] => cases x <;> first | rfl | exact h
  | x :: _ :: _ => cases x <;> rfl

/-- One more event, other than a reset with no write outstanding: the wire holds what it held and what the event put out. -/
theorem mayBeOnWire_append {e : TxEvent} (h : e.isResetInAck = false) (trace : List TxEvent) (wire : List Byte) :
    mayBeOnWire (trace ++ [e]) wire ↔
      ∃ before piece, mayBeOnWire trace before ∧ mayPutOut e [] piece ∧ wire = before ++ piece := by
  induction trace generalizing wire with
  | nil => simp
  | cons x trace ih =>
    simp only [List.cons_append, mayBeOnWire_cons, mayPutOut_congr (resetsInAck_append h trace), ih]
    constructor
    · rintro ⟨p, r, rfl, hp, b, q, hb, hq, rfl⟩
      exact ⟨p ++ b, q, ⟨p, b, rfl, hp, hb⟩, hq, by simp⟩
    · rintro ⟨-, q, ⟨p, b, rfl, hp, hb⟩, hq, rfl⟩
      exact ⟨p, b ++ q, by simp, hp, b, q, hb, hq, rfl⟩

/-! ### Runs -/

@[simp] theorem runSteps_zero (s : State) : runSteps 0 s = .next s := rfl

/-- A run of one more step is a step and the run from there. -/
theorem runSteps_succ {s t : State} (h : step s = .next t) (k : Nat) : runSteps (k + 1) s = runSteps k t := by
  have h' : Sys2Proof.core.step s = .next t := h
  simp only [runSteps, Host.Core.run, h']
  rfl

/-- Runs compose. -/
theorem runSteps_add {s t : State} {j : Nat} (h : runSteps j s = .next t) (k : Nat) :
    runSteps (j + k) s = runSteps k t := by
  induction j generalizing s with
  | zero =>
    cases h
    simp
  | succ j ih =>
    obtain ⟨u, hu, -⟩ := step_next s
    rw [runSteps_succ hu] at h
    rw [Nat.add_right_comm, runSteps_succ hu, ih h]

end Sys2Proof.Machine
end

