-- ==== Sys2Proof/Laws/Validator.lean ====
section
/-! SUPPORT. The Address Table and the loop of the validator: what a changed cell and an admitted table read as, and what the loop
adds up over any list of cells. -/

namespace Sys2Proof

/-! ### Tables -/

theorem cellNumber_inj {x x' : Fin 9} {y y' : Fin 16} (h : (cellNumber x y).val = (cellNumber x' y').val) :
    x' = x ∧ y' = y := by
  simp only [cellNumber] at h
  constructor <;> apply Fin.ext <;> omega

/-- A table with one cell changed reads as that slot there, and as before everywhere else. -/
theorem AddressTable.lookup_withCell (t : AddressTable) (x x' : Fin 9) (y y' : Fin 16) (k : Slot) :
    (t.withCell x y k).lookup x' y' = if x' = x ∧ y' = y then k else t.lookup x' y' := by
  by_cases e : x' = x ∧ y' = y
  · simp [AddressTable.lookup, AddressTable.withCell, e]
  · have h : (cellNumber x y).val ≠ (cellNumber x' y').val := fun h => e (cellNumber_inj h)
    simp only [AddressTable.lookup, AddressTable.withCell, Fin.getElem_fin, Vector.getElem_set, h, e, if_false]

/-- A numbered table holds its number's slot in each cell. -/
theorem AddressTable.lookup_ofNumbered (f : Fin 144 → Slot) (x : Fin 9) (y : Fin 16) :
    (AddressTable.ofNumbered f).lookup x y = f (cellNumber x y) := by
  simp [AddressTable.lookup, AddressTable.ofNumbered]

/-- A coordinate in range resolves to the entry of its cell. -/
theorem AddressTable.resolve_inside (t : AddressTable) {x y : Nat} (hx : x < 9) (hy : y < 16) :
    t.resolve x y = some (t.lookup ⟨x, hx⟩ ⟨y, hy⟩) := by simp [AddressTable.resolve, hx, hy]

/-- A coordinate out of range resolves to nothing. -/
theorem AddressTable.resolve_outside (t : AddressTable) {x y : Nat} (h : 9 ≤ x ∨ 16 ≤ y) : t.resolve x y = none := by
  unfold AddressTable.resolve
  split
  next hx => rw [dif_neg (by omega)]
  next hx => rfl

theorem RawConfig.tableWf_iff (r : RawConfig) :
    r.tableWf = true ↔
      ∀ x y, x < 9 → y < 16 → r.chipTbl x y ≤ 2 ∧ r.channelTbl x y ≤ 15 ∧ r.colorTbl x y ≤ 2 := by
  simp only [RawConfig.tableWf, decide_eq_true_eq]
  exact ⟨fun h x y hx hy => h ⟨x, hx⟩ ⟨y, hy⟩, fun h x y => h x y x.isLt y.isLt⟩

/-- The table of a raw configuration holds the raw entries, as far as they are in range. -/
theorem RawConfig.table_lookup (r : RawConfig) (x : Fin 9) (y : Fin 16) :
    r.table.lookup x y =
      { chip := Fin.ofNat 3 (r.chipTbl x y)
        channel := Fin.ofNat 16 (r.channelTbl x y)
        color := Fin.ofNat 3 (r.colorTbl x y) } := by
  have e1 : (9 * y.val + x.val) % 9 = x.val := by omega
  have e2 : (9 * y.val + x.val) / 9 = y.val := by omega
  simp only [RawConfig.table, AddressTable.lookup_ofNumbered, cellNumber, e1, e2]

end Sys2Proof

namespace Sys2Proof.Machine

/-! ### The loop of the validator -/

theorem gridCells_length : gridCells.length = 144 := by decide +kernel

/-- Every cell is visited. -/
theorem mem_gridCells (x : Fin 9) (y : Fin 16) : (x, y) ∈ gridCells := by simp [gridCells]

/-- The loop adds, to each channel, the weights of the cells of that channel. -/
theorem foldl_addCell_get (t : AddressTable) (l : List (Fin 9 × Fin 16)) (v : Vector Nat 16) (c : Fin 16) :
    (l.foldl (addCell t) v)[c] =
      v[c] + ((l.filter fun p => decide ((t.lookup p.1 p.2).channel = c)).map (cellWeight t)).sum := by
  induction l generalizing v with
  | nil => simp
  | cons p l ih =>
    rw [List.foldl_cons, ih]
    simp only [List.filter_cons, addCell, Fin.getElem_fin, Vector.getElem_set]
    by_cases h : (t.lookup p.1 p.2).channel = c
    · subst h
      simp
      omega
    · have h' : (t.lookup p.1 p.2).channel.val ≠ c.val := fun e => h (Fin.ext e)
      simp [h, h']

/-- No cell adds more than 4. -/
theorem cellWeight_le (t : AddressTable) (p : Fin 9 × Fin 16) : cellWeight t p ≤ 4 := by
  unfold cellWeight
  omega

/-- Either answer of the validation carries the sums that its loop computed. -/
theorem validate_cases (t : AddressTable) :
    validate t = .ok (validatorSums t) ∨ validate t = .checksumMismatch kExpected (validatorSums t) := by
  unfold validate
  split
  · exact .inl rfl
  · exact .inr rfl

end Sys2Proof.Machine
end

