-- ==== Sys2Proof/Tests/Slice0.lean ====
section
/-! SUPPORT. The model's own tests. Expected values come from `spec/` (the rule or the vector is named), never from the model. Then one
witness for each statement of `Obligations.lean` that has hypotheses: a concrete input that meets them together. -/

namespace Sys2Proof.Tests

open Sys2Proof Sys2Proof.Machine

set_option maxRecDepth 20000
set_option Elab.async false

/-! ### Small states -/

/-- The configuration of `95_test_vectors.md` after a construction without reset (row 1 of L2.8). -/
def linked : State :=
  { State.reset with
    state := .connected
    handleOpen := true
    chkStatus := .passed
    chkSum := Vector.replicate 16 18#16
    txTrace := [.openReq "" 9600 .ok] }

/-- `linked` with one command word on the command port. -/
def given (w : Word) : State := { linked with cmdIn := [w] }

/-- A configuration that differs from the one of the vectors. -/
def config (order : InitOrder) (reset : Bool) (bound : ReconnectBound) (capacity : Nat) : Config :=
  { Config.ofTestVectors with initOrder := order, resetOnStart := reset, maxReconnect := bound, frameCapacity := capacity }

/-- A block with no handle in the state `h`. -/
def unlinked (c : Config) (h : HState) : State := { State.resetWith c with state := h }

/-- A SEND in its `SENDING` step. -/
def inSend : State := { linked with state := .sending, cmd := some .send, writeIn := [.ok] }

/-- A SEND before its first read, and one before its second. -/
def inAck (a0 : Option ReadAnswer) (raw0 : BitVec 10) (next : ReadAnswer) : State :=
  { linked with
    state := .awaitingAck, cmd := some .send, snapshot := some (frame linked.buf)
    txTrace := [.openReq "" 9600 .ok, .writeReq (frame linked.buf) .ok] ++ (a0.map (TxEvent.readReq 90)).toList
    ack0 := a0, ackRaw0 := raw0, readIn := [next] }

/-- The next state of an outcome. -/
def nextOf (o : Host.Outcome State Fault Refusal) : Option State :=
  match o with
  | .next t => some t
  | .fault _ => none
  | .refused _ => none

/-- What a step from `s` leaves, seen through `f`. -/
def sees {α : Type} (s : State) (f : State → α) : Option α := (nextOf (step s)).map f

/-! ### Decoding: words written out from 30 R71 and R73 -/

theorem test_decode_resolve : decode (0x1#4 ++ 5#4 ++ 11#5 ++ 0#3 ++ 0#16) = .ok (.resolve 5 11) := by decide
theorem test_decode_setPixel :
    decode (0x2#4 ++ 8#4 ++ 15#5 ++ 0#3 ++ 0xABCD#16) = .ok (.setPixel 8 15 0xABCD#16) := by decide
theorem test_decode_setAll : decode (0x3#4 ++ 0#4 ++ 0#5 ++ 0#3 ++ 0x0102#16) = .ok (.setAll 0x0102#16) := by decide
theorem test_decode_setChipGroup :
    decode (0x4#4 ++ 0#4 ++ 0#5 ++ 7#3 ++ 5#16) = .ok (.setChipGroup 7 5#16) := by decide
theorem test_decode_serialize : decode (0x5#4 ++ 0#28) = .ok .serialize := by decide
theorem test_decode_send : decode (0x6#4 ++ 0#28) = .ok .send := by decide
theorem test_decode_close : decode (0x7#4 ++ 0#28) = .ok .close := by decide

/-- 95 L2.1, L2.3 to L2.5, L2.7: the words that are no command. -/
theorem test_decode_refuses :
    [0x00000000#32, 0x80000000#32, 0xF0000000#32].map decode = List.replicate 3 (.error .reservedOpcode) ∧
    [0x15580001#32, 0x15590000#32, 0x20011234#32, 0x41010005#32, 0x30010005#32, 0x50000001#32, 0x70000100#32].map decode =
      List.replicate 7 (.error .mustBeZero) := by decide

/-- `spec/opcode_table.json`: no word matches two rows. -/
theorem test_rows_do_not_overlap :
    opcodeTable.Pairwise fun a b => (a.value ^^^ b.value) &&& (a.mask &&& b.mask) ≠ 0#32 := by decide

theorem test_decodeTableWord : decodeTableWord 32 0x40030005 = some (.setChipGroup 3 5#16) := by decide

/-! ### Well-formedness: an ill-formed term for each check (30 R81) -/

theorem test_wf_x : (Instr.resolve 15 31).wf = true ∧ (Instr.resolve 16 0).wf = false := by decide
theorem test_wf_y : (Instr.resolve 0 32).wf = false := by decide
theorem test_wf_pixel_x : (Instr.setPixel 16 0 0#16).wf = false := by decide
theorem test_wf_pixel_y : (Instr.setPixel 0 32 0#16).wf = false := by decide
theorem test_wf_chip : (Instr.setChipGroup 7 0#16).wf = true ∧ (Instr.setChipGroup 8 0#16).wf = false := by decide

/-! ### The assembler (30 R81, R82, 95 P1 and P2) -/

theorem test_asm_line :
    assembleLine "SET_PIXEL 5, 11, 0xFFFF    ; 0x2558FFFF".toList = .ok (some 0x2558FFFF#32) := by decide
theorem test_asm_pseudo :
    assembleLine "LIGHT_CHIP 1".toList = .ok (some 0x4001FFFF#32) ∧ assembleLine "CLEAR".toList = .ok (some 0x30000000#32) ∧
    assembleLine "BLANK_CHIP 2".toList = .ok (some 0x40020000#32) := by decide
/-- 95 P3 (log 18). -/
theorem test_asm_word :
    assembleLine ".word 0x15580001           ;            -> 0x40000000".toList = .ok (some 0x15580001#32) ∧
    assembleLine ".word 0x100000000".toList = .error .operandDoesNotFit := by decide
theorem test_asm_refuses :
    assembleLine "RESOLVE 16, 0".toList = .error .operandDoesNotFit ∧
    assembleLine "SET_ALL 65536".toList = .error .operandDoesNotFit ∧
    assembleLine "RESOLVE 9".toList = .error .wrongNumberOfOperands ∧ assembleLine "NOP".toList = .error .unknownMnemonic := by
  decide

/-! ### Admission (40 R101, 00 R6) -/

/-- A raw configuration whose table sends every cell to one slot. -/
def raw (chip channel color : Nat) (bound : Option Nat) : RawConfig :=
  { chipTbl := fun _ _ => chip, channelTbl := fun _ _ => channel, colorTbl := fun _ _ => color, port := "p", baud := 9600
    resetOnStart := true, maxReconnect := bound, frameCapacity := 290, initOrder := .openFirst }

theorem test_admission :
    ((raw 3 0 0 none).tableWf, (raw 0 16 0 none).tableWf, (raw 0 0 3 none).tableWf, (raw 2 15 2 none).tableWf) =
      (false, false, false, true) ∧
    admitBound (some 1) = .error .boundBelowTwo := by decide +kernel

/-! ### The command port and the commands (95 L2.1 to L2.7) -/

/-- L2.1: `RESOLVE 8, 15`, the largest legal cell. -/
theorem test_resolve : sees (given 0x18780000#32) (·.rsp) = some (some 0x008FBE00#32) := by decide +kernel

/-- L2.1: `RESOLVE 0, 16`. -/
theorem test_resolve_out :
    sees (given 0x10800000#32) (fun t => (t.rsp, t.lastStatus)) = some (some 0x10000000#32, .outOfRange) := by decide +kernel

/-- L2.3: `SET_PIXEL 5, 11, 0xFFFF`. -/
theorem test_setPixel :
    sees (given 0x2558FFFF#32) (fun t => (t.rsp, t.buf[103], t.buf[104], t.buf[105])) =
      some (some 0x00688A00#32, 0#16, 0xFFFF#16, 0#16) := by decide +kernel

/-- L2.3: `SET_PIXEL 9, 0, 7`. -/
theorem test_setPixel_out :
    sees (given 0x29000007#32) (fun t => (t.rsp, decide (t.buf = linked.buf))) = some (some 0x10000000#32, true) := by
  decide +kernel

/-- L2.4: `SET_ALL 0x0102`. -/
theorem test_setAll :
    sees (given 0x30000102#32) (fun t => (t.rsp, decide (t.buf = Vector.replicate 144 0x0102#16))) =
      some (some 0#32, true) := by decide +kernel

/-- L2.4: `SET_CHIP_GROUP 1, 0x00FF` writes `buf[48..95]`. -/
theorem test_setChipGroup :
    sees (given 0x400100FF#32) (fun t => (t.rsp, t.buf[47], t.buf[48], t.buf[95], t.buf[96])) =
      some (some 0#32, 0#16, 0x00FF#16, 0x00FF#16, 0#16) := by decide +kernel

/-- L2.4: `SET_CHIP_GROUP 3, 5`. -/
theorem test_setChipGroup_invalid :
    sees (given 0x40030005#32) (fun t => (t.rsp, decide (t.buf = linked.buf))) = some (some 0x20000000#32, true) := by
  decide +kernel

/-- L2.5 with one bright pixel: `SERIALIZE` puts out the frame with the two bytes at offsets 210 and 211. -/
theorem test_serialize :
    sees { given 0x50000000#32 with buf := linked.buf.set 104 0x12FF#16 } (fun t => (t.rsp, t.frameOut)) =
      some (some 0#32, [[0x47#8, 0x4F#8] ++ List.replicate 208 0#8 ++ [0x12#8, 0xFF#8] ++ List.replicate 78 0#8]) := by
  decide +kernel

/-- L2.5: `SERIALIZE` with a capacity of 289. -/
theorem test_serialize_overflow :
    sees { given 0x50000000#32 with cfg := config .validateFirst false none 289 }
      (fun t => (t.rsp, t.fault, t.frameOut, t.logOut)) =
      some (some 0x60000000#32, .bufferOverflow, [], [.bufferOverflow 290 289]) := by decide +kernel

/-- L2.6: `SEND` is accepted; `cmd_ready` is 0 and no response is made. -/
theorem test_send : sees (given 0x60000000#32) (fun t => (t.rsp, t.state, t.cmdReady)) = some (none, .sending, false) := by
  decide +kernel

/-- L2.6, last row: a failed frame write. -/
theorem test_send_write_error :
    sees { inSend with writeIn := [.error] } (fun t => (t.rsp, t.state, t.lastAck, t.logOut)) =
      some (some 0x30000000#32, .connected, .none, [.writeError]) := by decide +kernel

/-- L2.6: the source's `('X','N')`. -/
theorem test_ack_mismatch :
    sees (inAck (some (.byte 0x58#8)) 0x158#10 (.byte 0x4E#8)) (fun t => (t.rsp, t.lastAck, t.ackRaw1, t.logOut)) =
      some (some 0x04000000#32, .mismatch, 0x14E#10, [.ackMismatch 0x158#10 0x14E#10]) := by decide +kernel

/-- L2.6: error beats timeout. -/
theorem test_ack_error_beats_timeout :
    sees (inAck (some .timeout) 0x200#10 .error) (fun t => (t.rsp, t.state, t.logOut)) =
      some (some 0x03000000#32, .connected, [.ackReadError 0x200#10 0x300#10]) := by decide +kernel

/-- L2.7: `CLOSE`. -/
theorem test_close :
    sees (given 0x70000000#32) (fun t => (t.rsp, t.state, t.handleOpen, t.txTrace)) =
      some (some 0#32, .closed, false, [.openReq "" 9600 .ok, .closeReq]) := by decide +kernel

/-- L2.7: in `CLOSED`, `NOT_READY` beats `ILLEGAL_COMMAND`. -/
theorem test_closed_not_ready :
    sees { unlinked Config.ofTestVectors .closed with cmdIn := [0#32] } (fun t => (t.rsp, t.lastStatus)) =
      some (some 0x50000000#32, .notReady) := by decide +kernel

/-- 70 R235: a command presented during a SEND is held. -/
theorem test_command_is_held : sees { inSend with cmdIn := [0x30000001#32] } (·.cmdIn) = some [0x30000001#32] := by
  decide +kernel

/-! ### Construction and reset (95 L2.2, L2.8, L2.9) -/

/-- The sums of a table whose entries are known, without looking the entries up. -/
theorem sums_of {t : AddressTable} (f : Fin 9 → Fin 16 → Slot) (h : ∀ x y, t.lookup x y = f x y) :
    validatorSums t =
      gridCells.foldl (fun v p =>
        v.set (f p.1 p.2).channel (v[(f p.1 p.2).channel] + ((f p.1 p.2).color.val + (f p.1 p.2).chip.val)))
        (Vector.replicate 16 0) := by
  unfold validatorSums
  congr 1
  funext v p
  simp only [addCell, cellWeight, h]

theorem example_lookup (x : Fin 9) (y : Fin 16) : exampleTable.lookup x y = Slot.ofIndex (cellNumber x y) :=
  AddressTable.lookup_ofNumbered _ x y

/-- L2.2: the sums of `T_EX`, `T_BAD`, `T_NB`. -/
theorem test_sums_example : validatorSums exampleTable = Vector.replicate 16 18 :=
  (sums_of _ example_lookup).trans (by decide +kernel)
theorem test_sums_bad : validatorSums badTable = (Vector.replicate 16 18).set 0 19 :=
  (sums_of (fun x y => if x = 0 ∧ y = 0 then ⟨1, 0, 0⟩ else Slot.ofIndex (cellNumber x y)) fun x y => by
    rw [badTable, AddressTable.lookup_withCell, example_lookup]).trans (by decide +kernel)
theorem test_sums_non_bijective : validatorSums nonBijectiveTable = Vector.replicate 16 18 :=
  (sums_of (fun x y => if x = 1 ∧ y = 0 then ⟨1, 0, 0⟩ else Slot.ofIndex (cellNumber x y)) fun x y => by
    rw [nonBijectiveTable, AddressTable.lookup_withCell, example_lookup]).trans (by decide +kernel)

/-- L2.2: `T_EX` passes. -/
theorem test_validate_example : validate exampleTable = .ok (Vector.replicate 16 18) := by
  simp [validate, test_sums_example, kExpected]

/-- L2.8, row `T_BAD`, `ValidateFirst`. -/
theorem test_bad_table :
    sees (unlinked { Config.ofTestVectors with table := badTable } .validating)
      (fun t => (t.state, t.fault, t.chkStatus, t.logOut, t.txTrace)) =
      some (.failed, .checksumMismatch, .failed,
        [.checksumMismatch 18#16 ((Vector.replicate 16 18#16).set 0 19#16)], []) := by decide +kernel

/-- L2.8, row `T_EX`, no reset, E. -/
theorem test_open_error :
    sees { unlinked Config.ofTestVectors .opening with openIn := [.error] } (fun t => (t.state, t.fault, t.logOut)) =
      some (.failed, .portOpenFailed, [.portOpenFailed]) := by decide +kernel

/-- L2.8, row `T_EX`, reset, O, E: the handle is closed. -/
theorem test_reset_write_error :
    sees { linked with cfg := config .validateFirst true none 300, state := .resetting, writeIn := [.error] }
      (fun t => (t.state, t.fault, t.handleOpen, t.txTrace)) =
      some (.failed, .resetWriteFailed, false,
        [.openReq "" 9600 .ok, .writeReq [0x52#8, 0x54#8] .error, .closeReq]) := by decide +kernel

/-- L2.8, row `T_EX`, reset, O, O, O: a first reopen that succeeds. -/
theorem test_reboot_failed :
    sees { unlinked (config .validateFirst true none 300) .reconnecting with openIn := [.ok] }
      (fun t => (t.state, t.fault, t.reconnectAttempts, t.handleOpen, t.logOut)) =
      some (.failed, .rebootFailed, 1#32, false, [.rebootFailed 1#32]) := by decide +kernel

/-- L2.8, row MAX = 3: the third error exhausts the bound. -/
theorem test_reconnect_exhausted :
    sees { unlinked (config .validateFirst true (some ⟨3, by decide⟩) 300) .reconnecting with
        openIn := [.error], reconnectAttempts := 2#32 }
      (fun t => (t.state, t.fault, t.reconnectAttempts)) = some (.failed, .reconnectExhausted, 3#32) := by decide +kernel

/-- 10 R26, 43 R167: the counter saturates, and the success after it is not a first attempt. -/
theorem test_counter_saturates :
    sees { unlinked (config .openFirst true none 300) .reconnecting with
        openIn := [.ok], reconnectAttempts := 0xFFFFFFFF#32 }
      (fun t => (t.state, t.reconnectAttempts)) = some (.validating, 0xFFFFFFFF#32) := by decide +kernel

/-- L2.9, the rows that a construction without reset shares with it. -/
theorem test_status_reads :
    [0x00#8, 0x01#8, 0x02#8, 0x06#8, 0x07#8, 0x09#8, 0x10#8, 0x1F#8, 0x0A#8, 0x20#8, 0xFF#8].map (statusRead linked) =
      [5#32, 0#32, 0xF#32, 1#32, 18#32, 1#32, 18#32, 18#32, 0#32, 0#32, 0#32] := by decide +kernel

/-- 70 R230, R232: `rst` before the write of a SEND closes the handle and starts again. -/
theorem test_rst :
    sees { inSend with rstIn := [.asserted] } (fun t => (t.state, t.cmd, t.rsp, t.txTrace)) =
      some (.disconnected, none, none, [.openReq "" 9600 .ok, .rst none, .closeReq]) := by decide +kernel

/-- 70 R232: `rst` while the write of the frame is outstanding leaves it without an answer; none is taken from the Transport. -/
theorem test_rst_during_write :
    sees { inSend with rstIn := [.duringRequest] } (fun t => (t.state, t.txTrace, t.writeIn)) =
      some (.disconnected, [.openReq "" 9600 .ok, .rst (some (.txWrite (frame linked.buf))), .closeReq], [.ok]) := by
  decide +kernel

/-- 70 R232, "partly or wholly on the wire": a reset in `SENDING`, and one in `AWAITING_ACK`; with the acknowledgment read, wholly. -/
theorem test_wire_after_rst :
    mayBeOnWire [.rst (some (.txWrite [1#8, 2#8])), .closeReq] [1#8] ∧
    mayBeOnWire [.writeReq [1#8, 2#8] .ok, .readReq 90 .timeout, .rst none, .closeReq] [] ∧
    ¬ mayBeOnWire [.writeReq [1#8, 2#8] .ok, .readReq 90 .timeout, .readReq 10 .timeout, .rst none] [1#8] := by
  refine ⟨?_, ?_, ?_⟩
  · exact ⟨[1#8], [], rfl, ⟨1, rfl⟩, [], [], rfl, rfl, rfl⟩
  · exact ⟨[], [], rfl, ⟨0, rfl⟩, [], [], rfl, rfl, [], [], rfl, rfl, [], [], rfl, rfl, rfl⟩
  · rintro ⟨p, q, h, rfl, -⟩
    cases h

/-- The host's placing of a word (log 6). -/
theorem test_withFetchWord :
    sees (State.reset.withFetchWord 32 0x20001234) (fun t => (t.rsp, t.buf[0])) = some (some 0#32, 0x1234#16) := by
  decide +kernel

/-! ### Witnesses: the hypotheses of each statement can be met together -/

theorem witness_decodeOfEncode : (Instr.setPixel 15 31 0xFFFF#16).wf = true := by decide
theorem witness_encodeOfDecode : decode 0x2FF8FFFF#32 = .ok (.setPixel 15 31 0xFFFF#16) := by decide

theorem witness_stepRunsTheDecodedCommand :
    (given 0x60000000#32).rstAsserted = false ∧ (given 0x60000000#32).state = .connected ∧
    (given 0x60000000#32).cmd = none ∧ (given 0x60000000#32).cmdIn = 0x60000000#32 :: [] ∧
    decode 0x60000000#32 = .ok .send := by decide

theorem witness_reservedOpcode :
    HiddenMatchesState (given 0x8FFFFFFF#32) ∧ (given 0x8FFFFFFF#32).rstAsserted = false ∧
    (given 0x8FFFFFFF#32).state = .connected ∧ (given 0x8FFFFFFF#32).cmdIn = 0x8FFFFFFF#32 :: [] ∧
    8#4 ≤ (0x8FFFFFFF#32).extractLsb' 28 4 ∧ (0x0FFFFFFF#32).extractLsb' 28 4 = 0#4 := by decide +kernel

/-- A word for each clause of the statement, on the state of the witness above: the opcode, then a nonzero field. -/
theorem witness_nonzeroUnusedField :
    (((0x10010000#32).extractLsb' 28 4).toNat = 1 ∧ (0x10010000#32).extractLsb' 16 3 ≠ 0#3) ∧
    (((0x10000001#32).extractLsb' 28 4).toNat = 1 ∧ (0x10000001#32).extractLsb' 0 16 ≠ 0#16) ∧
    (((0x20040000#32).extractLsb' 28 4).toNat = 2 ∧ (0x20040000#32).extractLsb' 16 3 ≠ 0#3) ∧
    (((0x38000000#32).extractLsb' 28 4).toNat = 3 ∧ (0x38000000#32).extractLsb' 24 4 ≠ 0#4) ∧
    (((0x40800000#32).extractLsb' 28 4).toNat = 4 ∧ (0x40800000#32).extractLsb' 19 5 ≠ 0#5) ∧
    (((0x50000001#32).extractLsb' 28 4).toNat = 5 ∧ (0x50000001#32).extractLsb' 0 16 ≠ 0#16) ∧
    (((0x60010000#32).extractLsb' 28 4).toNat = 6 ∧ (0x60010000#32).extractLsb' 16 3 ≠ 0#3) ∧
    (((0x78000000#32).extractLsb' 28 4).toNat = 7 ∧ (0x78000000#32).extractLsb' 24 4 ≠ 0#4) := by
  refine ⟨⟨?_, ?_⟩, ⟨?_, ?_⟩, ⟨?_, ?_⟩, ⟨?_, ?_⟩, ⟨?_, ?_⟩, ⟨?_, ?_⟩, ⟨?_, ?_⟩, ⟨?_, ?_⟩⟩ <;> decide

theorem witness_failedAndClosed :
    (∀ h ∈ [HState.failed, HState.closed],
      HiddenMatchesState (unlinked Config.ofTestVectors h) ∧ (unlinked Config.ofTestVectors h).rstAsserted = false ∧
      (unlinked Config.ofTestVectors h).cmdIn = [] ∧
      HiddenMatchesState { unlinked Config.ofTestVectors h with cmdIn := [7#32] }) := by decide +kernel

/-- The hypotheses "a step answers `next`" and "`rst` is low": every state of these tests meets them. -/
theorem witness_step :
    (∃ t, step State.reset = .next t) ∧ State.reset.rstAsserted = false ∧ (∃ t, step (given 0x60000000#32) = .next t) ∧
    (given 0x60000000#32).cmdReady = true ∧ (∃ t, step inSend = .next t) ∧ inSend.cmdReady = false :=
  ⟨⟨_, rfl⟩, rfl, ⟨_, rfl⟩, by decide +kernel, ⟨_, rfl⟩, by decide +kernel⟩

theorem witness_responseWhenCompletes :
    HiddenMatchesState (given 0x70000000#32) ∧ sees (given 0x70000000#32) (·.rsp.isSome) = some true ∧
    HiddenMatchesState inSend ∧ sees inSend (fun t => (t.rsp.isSome, t.cmd.isSome)) = some (false, true) := by
  decide +kernel

theorem witness_cells : (8 < 9 ∧ 15 < 16) ∧ (9 ≤ 9 ∨ 16 ≤ 0) ∧ (9 ≤ 0 ∨ 16 ≤ 16) := by decide
theorem witness_chips : 2 < 3 ∧ 3 ≤ 3 := by decide

theorem witness_idempotent :
    (nextOf (exec (.setPixel 8 15 1#16) linked)).isSome = true ∧ (nextOf (exec (.setPixel 9 0 1#16) linked)).isSome = true ∧
    (nextOf (exec (.setAll 1#16) linked)).isSome = true ∧ (nextOf (exec (.setChipGroup 2 1#16) linked)).isSome = true ∧
    (nextOf (exec (.setChipGroup 3 1#16) linked)).isSome = true := by decide +kernel

theorem witness_onlyBufferCommandsWrite :
    sees (given 0x30000001#32) (fun t => decide (t.buf ≠ linked.buf)) = some true ∧
    sees { linked with buf := Vector.replicate 144 1#16, rstIn := [.asserted] } (fun t => decide (t.buf = linked.buf)) =
      some true := by decide +kernel

theorem witness_slotIndex : (⟨2, 15, 2⟩ : Slot).index = 143 ∧ (⟨0, 0, 0⟩ : Slot).index = 0 := by decide

theorem witness_tables : tablePasses exampleTable ∧ ¬ tablePasses badTable := by
  have h (t : AddressTable) (c : Fin 16) := foldl_addCell_get t gridCells (Vector.replicate 16 0) c
  constructor
  · intro c
    have e := (h exampleTable c).symm.trans (congrArg (·[c]) test_sums_example)
    simpa [channelSum] using e
  · intro k
    have e := (h badTable 0).symm.trans (congrArg (·[(0 : Fin 16)]) test_sums_bad)
    have e' := k 0
    simp [channelSum] at e e'
    omega

/-- 95 L2.2, the last row: every cell on `(2, 15, 2)`. No cell is on channel 0. -/
def lastSlotTable : AddressTable := AddressTable.ofNumbered fun _ => ⟨2, 15, 2⟩

theorem witness_channelSums :
    (validatorSums lastSlotTable)[15] = 576 ∧ ∀ (x : Fin 9) (y : Fin 16), (lastSlotTable.lookup x y).channel ≠ 0 := by
  have h (x : Fin 9) (y : Fin 16) : lastSlotTable.lookup x y = ⟨2, 15, 2⟩ := AddressTable.lookup_ofNumbered _ x y
  exact ⟨by rw [sums_of _ h]; decide +kernel, fun x y => by simp [h]⟩

/-- The example table is one to one: its cell number `n` is the slot of index `n`. -/
theorem witness_bijective (x x' : Fin 9) (y y' : Fin 16)
    (h : (exampleTable.lookup x y).index = (exampleTable.lookup x' y').index) : x = x' ∧ y = y' := by
  have e : ∀ i : Fin 144, (Slot.ofIndex i).index.val = i.val := by
    intro i
    simp only [Slot.index, Slot.ofIndex]
    omega
  simp only [exampleTable, AddressTable.lookup_ofNumbered, Fin.ext_iff, e] at h
  have h' := cellNumber_inj h
  exact ⟨h'.1.symm, h'.2.symm⟩

theorem witness_swappedCell : exampleTable.lookup 1 0 = ⟨0, 0, 1⟩ := by decide +kernel

theorem witness_admission : ∃ c, (raw 2 15 2 (some 2)).checked = .ok c := by
  have h : (raw 2 15 2 (some 2)).tableWf = true := by decide +kernel
  unfold RawConfig.checked
  rw [if_pos h]
  exact ⟨_, rfl⟩

/-- Both orders with a passing table, and a failing table. -/
theorem witness_validatingStep :
    (∀ o ∈ [InitOrder.validateFirst, .openFirst],
      (let s := { unlinked (config o false none 300) .validating with handleOpen := decide (o = .openFirst) }
       HandleMatchesState s ∧ FaultMatchesState s ∧ HiddenMatchesState s ∧ s.rstAsserted = false ∧
         tablePasses s.cfg.table)) ∧
    (let s := unlinked { Config.ofTestVectors with table := badTable } .validating
     HandleMatchesState s ∧ FaultMatchesState s ∧ HiddenMatchesState s ∧ s.rstAsserted = false ∧
       ¬ tablePasses s.cfg.table) := by
  refine ⟨fun o ho => ?_, by decide, by decide, by decide +kernel, by decide, witness_tables.2⟩
  refine ⟨?_, ?_, ?_, ?_, witness_tables.1⟩ <;> revert o <;> decide +kernel

theorem witness_serialize : 290 ≤ (config .validateFirst false none 290).frameCapacity := by decide

theorem witness_overflow :
    (∀ s ∈ [{ given 0x50000000#32 with cfg := config .validateFirst false none 289 },
        { inSend with cfg := config .openFirst false none 289 }],
      HandleMatchesState s ∧ FaultMatchesState s ∧ HiddenMatchesState s ∧ s.rstAsserted = false ∧
        s.cfg.frameCapacity < 290) := by decide +kernel

theorem witness_setPixelHasNoCrossTalk : ∃ t, exec (.setPixel 8 15 0xFFFF#16) linked = .next t := ⟨_, rfl⟩

theorem witness_constructionStarts :
    ∀ o ∈ [InitOrder.validateFirst, .openFirst],
      (unlinked (config o true none 300) .disconnected).rstAsserted = false ∧
      (unlinked (config o true none 300) .disconnected).state = .disconnected := by decide

theorem witness_openingStep :
    ∀ a ∈ [TxResult.ok, .error],
      (let s := { unlinked (config .validateFirst true none 300) .opening with openIn := [a] }
       HandleMatchesState s ∧ FaultMatchesState s ∧ HiddenMatchesState s ∧ s.rstAsserted = false ∧ s.openAnswer = a) := by
  decide +kernel

theorem witness_resettingStep :
    ∀ a ∈ [TxResult.ok, .error],
      (let s := { linked with cfg := config .openFirst true none 300, state := .resetting, writeIn := [a] }
       HandleMatchesState s ∧ FaultMatchesState s ∧ HiddenMatchesState s ∧ s.rstAsserted = false ∧ s.writeAnswer = a) := by
  decide +kernel

/-- First attempt, later attempt, bound reached, bound not reached. -/
theorem witness_reconnectingStep :
    ∀ p ∈ [(TxResult.ok, 0#32), (.ok, 1#32), (.error, 1#32), (.error, 0#32), (.error, 0xFFFFFFFF#32)],
      (let s := { unlinked (config .openFirst true (some ⟨2, by decide⟩) 300) .reconnecting with
          openIn := [p.1], reconnectAttempts := p.2 }
       HandleMatchesState s ∧ FaultMatchesState s ∧ HiddenMatchesState s ∧ s.rstAsserted = false ∧ s.openAnswer = p.1) := by
  decide +kernel

theorem witness_constructionWithoutReset :
    tablePasses (config .openFirst false none 300).table ∧ (config .openFirst false none 300).resetOnStart = false :=
  ⟨witness_tables.1, rfl⟩

theorem witness_constructionWithReset :
    tablePasses (config .openFirst true (some ⟨2, by decide⟩) 300).table ∧
    (config .openFirst true (some ⟨2, by decide⟩) 300).resetOnStart = true ∧
    (∀ m, (config .openFirst true (some ⟨2, by decide⟩) 300).maxReconnect = some m → 1 < m.val) := by
  refine ⟨witness_tables.1, rfl, ?_⟩
  rintro m ⟨⟩
  decide

theorem witness_unboundedReconnect :
    (let s := { unlinked (config .openFirst true none 300) .reconnecting with openIn := [.error, .error] }
     s.state = .reconnecting ∧ s.cfg.maxReconnect = none ∧ s.rstIn = [] ∧ s.openIn = List.replicate 2 .error ++ []) := by
  decide

theorem witness_boundedReconnect :
    (let s := unlinked (config .openFirst true (some ⟨2, by decide⟩) 300) .reconnecting
     s.state = .reconnecting ∧ s.cfg.maxReconnect = some ⟨2, by decide⟩ ∧ 2 ≤ 0xFFFFFFFF ∧
       (∀ b ∈ s.rstIn, b = .low)) := by decide

theorem witness_sendingStep :
    ∀ a ∈ [TxResult.ok, .error],
      (let s := { inSend with writeIn := [a] }
       s.rstAsserted = false ∧ s.state = .sending ∧ 290 ≤ s.cfg.frameCapacity ∧ s.writeAnswer = a) := by decide

theorem witness_awaitingAck :
    ∀ a ∈ [none, some ReadAnswer.timeout],
      (inAck a 0x200#10 .error).rstAsserted = false ∧ (inAck a 0x200#10 .error).state = .awaitingAck ∧
      (inAck a 0x200#10 .error).ack0 = a := by decide

theorem witness_classification :
    ReadAnswer.byte 0x44#8 ≠ .error ∧ ReadAnswer.timeout ≠ .error ∧ ¬ (0x4E#8 = 0x44#8 ∧ 0x44#8 = 0x4E#8) ∧
    ¬ (0x44#8 = 0x44#8 ∧ 0x44#8 = 0x4E#8) := by decide

theorem witness_sendRoundTrip :
    (let s := { given 0x60000000#32 with
        cfg := config .validateFirst false none 290, writeIn := [.ok], readIn := [.timeout, .byte 0x4E#8] }
     s.state = .connected ∧ s.cmd = none ∧ s.ack0 = none ∧ s.rstIn = [] ∧ 290 ≤ s.cfg.frameCapacity ∧
     s.cmdIn = 0x60000000#32 :: [] ∧ s.writeIn = .ok :: [] ∧ s.readIn = .timeout :: .byte 0x4E#8 :: []) := by decide

/-- The invariants hold together in a state of a run, and a step is taken from it. -/
theorem witness_invariants : Inv linked ∧ ∃ t, step linked = .next t := by
  refine ⟨⟨by decide, by decide, by decide +kernel, ⟨by decide, fun _ c => ?_, fun _ => witness_tables.1, by decide⟩,
    by decide, by decide +kernel⟩, ⟨_, rfl⟩⟩
  rw [show channelSum linked.cfg.table c = 18 from witness_tables.1 c]
  revert c
  decide

/-- The invariants of a SEND, in its three steps. -/
theorem witness_invariants_send :
    (HandleMatchesState inSend ∧ HiddenMatchesState inSend ∧ ExchangeIsLegal inSend ∧ ∃ t, step inSend = .next t) ∧
    (HandleMatchesState (inAck none 0#10 .error) ∧ HiddenMatchesState (inAck none 0#10 .error) ∧
      ExchangeIsLegal (inAck none 0#10 .error) ∧ ∃ t, step (inAck none 0#10 .error) = .next t) :=
  ⟨⟨by decide +kernel, by decide +kernel, by decide +kernel, _, rfl⟩,
    ⟨by decide +kernel, by decide +kernel, by decide +kernel, _, rfl⟩⟩

/-- A record with neither a failed write nor a reset; the two kinds of a reset in `AWAITING_ACK`; an event of each kind that puts
out nothing, after a record that does not end in a frame's `AWAITING_ACK`. -/
theorem witness_wire :
    (let trace := [TxEvent.writeReq [1#8] .ok, .closeReq]
     (∀ bytes, TxEvent.writeReq bytes .error ∉ trace) ∧ (∀ r, TxEvent.rst r ∉ trace) ∧
     ∀ more bytes, trace ≠ more ++ [.writeReq bytes .ok] ∧
       ∀ ms a, trace ≠ more ++ [.writeReq bytes .ok, .readReq ms a]) ∧
    (∃ ms, some (TxRequest.txRead 90) = some (.txRead ms)) ∧
    ∀ e ∈ [TxEvent.openReq "" 9600 .ok, .readReq 90 .timeout, .closeReq, .rst none, .rst (some (.txRead 10))],
      writesOf [e] = [] := by
  refine ⟨⟨by simp, by simp, fun more bytes => ⟨fun h => ?_, fun ms a h => ?_⟩⟩, ⟨90, rfl⟩, by decide⟩
  · have := congrArg List.getLast? h
    simp at this
  · have := congrArg List.getLast? h
    simp at this

theorem witness_pendingAndOver :
    (unlinked Config.ofTestVectors .disconnected).state ≠ .connected ∧
    (unlinked Config.ofTestVectors .disconnected).isOver = false ∧ inSend.state ≠ .connected ∧ inSend.isOver = false ∧
    linked.isOver = true ∧ linked.cmdIn = [] ∧ linked.rstAsserted = false ∧ inSend.rstAsserted = false ∧
    (∃ t, step inSend = .next t) ∧ ∃ t, step linked = .next t :=
  ⟨by decide, rfl, by decide, rfl, rfl, rfl, rfl, rfl, ⟨_, rfl⟩, ⟨_, rfl⟩⟩

theorem witness_faultEntry : inSend.cmd = some .send ∧ linked.cmd = none := by decide

theorem witness_firstFaultIsKept :
    (let s := { unlinked Config.ofTestVectors .failed with fault := .portOpenFailed }
     s.rstAsserted = false ∧ s.fault ≠ .none ∧ s.state = .failed ∧ (nextOf (step s)).isSome = true) ∧
    sees { unlinked Config.ofTestVectors .opening with openIn := [.error] } (fun t => decide (t.fault ≠ .none)) =
      some true := by decide +kernel

theorem witness_outcomeRegisters :
    linked.rstAsserted = false ∧ linked.state ≠ .sending ∧ linked.state ≠ .awaitingAck ∧ linked.state ≠ .validating ∧
    linked.state ≠ .resetting ∧ linked.state ≠ .reconnecting ∧ ∃ t, step linked = .next t :=
  ⟨rfl, by decide, by decide, by decide, by decide, by decide, _, rfl⟩

theorem witness_resetFromAnyState :
    ∀ r ∈ [RstSample.asserted, .duringRequest],
      ({ inSend with rstIn := [r, .low] }).rstAsserted = true ∧ ({ inSend with rstIn := [r, .low] }).rstIn.head? = some r := by
  decide

/-- Two states that differ in all the outcome fields and nothing else. -/
theorem witness_outcomeFields :
    (let t := { linked with
        fault := .bufferOverflow, lastStatus := .ok, lastAck := .timeout, ackRaw0 := 1#10, ackRaw1 := 2#10
        chkStatus := .failed, chkSum := Vector.replicate 16 0#16, logOut := [.writeError] }
     t = { linked with
       fault := t.fault, lastStatus := t.lastStatus, lastAck := t.lastAck, ackRaw0 := t.ackRaw0, ackRaw1 := t.ackRaw1
       chkStatus := t.chkStatus, chkSum := t.chkSum, logOut := t.logOut } ∧ t ≠ linked ∧
     (∃ s', step linked = .next s') ∧ ∃ t', step t = .next t') :=
  ⟨rfl, fun h => absurd (congrArg State.lastStatus h) (by decide), ⟨_, rfl⟩, ⟨_, rfl⟩⟩

end Sys2Proof.Tests
end

/-! PROOFS, family `10_state.md`. First the branches of a step: `StepCase` (Laws/Step.lean) says which step function a step runs,
and here each step function of the handshake is taken apart too, so that a statement about every step is proved by cases on its
branches. Then, for each part of the state, what the branches do to it. -/

namespace Sys2Proof.Machine

/-- The branches of a handshake step (43 R163 to R174): `s` is the state after the ports were sampled. -/
inductive HandshakeCase (s : State) : State → Prop
  | start (hs : s.state = .disconnected) : HandshakeCase s (s.goto (firstState s.cfg.initOrder))
  | validated (hs : s.state = .validating) (sums : Vector Nat 16) (hv : validate s.cfg.table = .ok sums) :
    HandshakeCase s ((s.report sums .passed).goto (validatedState s.cfg.initOrder))
  | checksumMismatch (hs : s.state = .validating) (expected : Nat) (sums : Vector Nat 16)
    (hv : validate s.cfg.table = .checksumMismatch expected sums) :
    HandshakeCase s (((s.report sums .failed).log (.checksumMismatch (BitVec.ofNat 16 expected) (sumRegisters sums))).raiseFault
      .checksumMismatch)
  | openFailed (hs : s.state = .opening) (ha : s.openAnswer = .error) :
    HandshakeCase s ((s.txOpen.log .portOpenFailed).raiseFault .portOpenFailed)
  | openedForReset (hs : s.state = .opening) (ha : s.openAnswer = .ok) (hr : s.cfg.resetOnStart = true) :
    HandshakeCase s (s.txOpen.goto .resetting)
  | opened (hs : s.state = .opening) (ha : s.openAnswer = .ok) (hr : s.cfg.resetOnStart = false) :
    HandshakeCase s s.txOpen.linkUp
  | resetWriteFailed (hs : s.state = .resetting) (ha : s.writeAnswer = .error) :
    HandshakeCase s (((s.txWrite resetCommand).log .resetWriteFailed).raiseFault .resetWriteFailed)
  | resetWritten (hs : s.state = .resetting) (ha : s.writeAnswer = .ok) :
    HandshakeCase s { (s.txWrite resetCommand).txClose with reconnectAttempts := 0#32, state := .reconnecting }
  | rebootFailed (hs : s.state = .reconnecting) (ha : s.openAnswer = .ok) (hn : s.reopen.reconnectAttempts = 1#32) :
    HandshakeCase s ((s.reopen.log (.rebootFailed s.reopen.reconnectAttempts)).raiseFault .rebootFailed)
  | reconnected (hs : s.state = .reconnecting) (ha : s.openAnswer = .ok) (hn : s.reopen.reconnectAttempts ≠ 1#32) :
    HandshakeCase s s.reopen.linkUp
  | reconnectExhausted (hs : s.state = .reconnecting) (ha : s.openAnswer = .error)
    (hb : boundReached s.cfg.maxReconnect s.reopen.reconnectAttempts = true) :
    HandshakeCase s ((s.reopen.log (.reconnectExhausted s.reopen.reconnectAttempts)).raiseFault .reconnectExhausted)
  | stillReconnecting (hs : s.state = .reconnecting) (ha : s.openAnswer = .error)
    (hb : boundReached s.cfg.maxReconnect s.reopen.reconnectAttempts = false) :
    HandshakeCase s (s.reopen.goto .reconnecting)
  | sendOverflow (hs : s.state = .sending) (ho : s.overflows = true) : HandshakeCase s s.overflowFault
  | sendFailed (hs : s.state = .sending) (ho : s.overflows = false) (ha : s.writeAnswer = .error) :
    HandshakeCase s ((({ (s.clearAckRaw.txWrite (frame s.buf)) with lastAck := .none }.log .writeError).goto .connected).respond
      .writeError .none none)
  | sent (hs : s.state = .sending) (ho : s.overflows = false) (ha : s.writeAnswer = .ok) :
    HandshakeCase s { (s.clearAckRaw.txWrite (frame s.buf)) with snapshot := some (frame s.buf), state := .awaitingAck }
  | firstRead (hs : s.state = .awaitingAck) (h0 : s.ack0 = none) : HandshakeCase s (firstAckStep s)
  | secondRead (hs : s.state = .awaitingAck) (a0 : ReadAnswer) (h0 : s.ack0 = some a0) : HandshakeCase s (secondAckStep a0 s)

theorem validatingStep_case {s : State} (hs : s.state = .validating) : HandshakeCase s (validatingStep s) := by
  unfold validatingStep
  split
  next sums hv => exact .validated hs sums hv
  next expected sums hv => exact .checksumMismatch hs expected sums hv

theorem openingStep_case {s : State} (hs : s.state = .opening) : HandshakeCase s (openingStep s) := by
  unfold openingStep
  split
  next ha => exact .openFailed hs ha
  next ha =>
    split
    next hr => exact .openedForReset hs ha hr
    next hr => exact .opened hs ha (Bool.eq_false_iff.mpr hr)

theorem resettingStep_case {s : State} (hs : s.state = .resetting) : HandshakeCase s (resettingStep s) := by
  unfold resettingStep
  split
  next ha => exact .resetWriteFailed hs ha
  next ha => exact .resetWritten hs ha

theorem reconnectingStep_case {s : State} (hs : s.state = .reconnecting) : HandshakeCase s (reconnectingStep s) := by
  unfold reconnectingStep
  split
  next ha =>
    split
    next hn => exact .rebootFailed hs ha hn
    next hn => exact .reconnected hs ha hn
  next ha =>
    split
    next hb => exact .reconnectExhausted hs ha hb
    next hb => exact .stillReconnecting hs ha (Bool.eq_false_iff.mpr hb)

theorem sendingStep_case {s : State} (hs : s.state = .sending) : HandshakeCase s (sendingStep s) := by
  unfold sendingStep
  split
  next ho => exact .sendOverflow hs ho
  next ho =>
    have ho' := Bool.eq_false_iff.mpr ho
    split
    next ha => exact .sendFailed hs ho' ha
    next ha => exact .sent hs ho' ha

theorem awaitingAckStep_case {s : State} (hs : s.state = .awaitingAck) : HandshakeCase s (awaitingAckStep s) := by
  unfold awaitingAckStep
  split
  next h0 => exact .firstRead hs h0
  next a0 h0 => exact .secondRead hs a0 h0

/-- The branches of a step in which `rst` is low: a step of the handshake, a wait at the command port, an accepted word. -/
inductive WorkCase (s : State) : State → Prop
  | handshake (t : State) (hc : HandshakeCase s.tick t) : WorkCase s t
  | idle (hs : s.state = .connected ∨ s.state = .failed ∨ s.state = .closed) (hw : s.cmdIn = [] ∨ s.cmd ≠ none) :
    WorkCase s s.tick
  | command (w : Word) (rest : List Word) (t : State) (hs : s.state = .connected ∨ s.state = .failed ∨ s.state = .closed)
    (hi : s.cmdIn = w :: rest) (hn : s.cmd = none) (hc : CommandCase w { s.tick with cmdIn := rest } t) : WorkCase s t

/-- Inversion of a step in which `rst` is asserted. -/
theorem step_of_rst {s t : State} (hr : s.rstAsserted = true) (ht : step s = .next t) :
    t = applyReset s.cutRequest s.tick := by
  rw [step, blockStep, if_pos hr] at ht
  exact (Host.Outcome.next.inj ht).symm

/-- Inversion of a step in which `rst` is low, down to the branches of the handshake. -/
theorem step_of_low {s t : State} (hr : s.rstAsserted = false) (ht : step s = .next t) : WorkCase s t := by
  cases step_cases ht with
  | reset hr' => simp [hr] at hr'
  | start _ hs => exact .handshake _ (.start hs)
  | validating _ hs => exact .handshake _ (validatingStep_case hs)
  | opening _ hs => exact .handshake _ (openingStep_case hs)
  | resetting _ hs => exact .handshake _ (resettingStep_case hs)
  | reconnecting _ hs => exact .handshake _ (reconnectingStep_case hs)
  | sending _ hs => exact .handshake _ (sendingStep_case hs)
  | awaiting _ hs => exact .handshake _ (awaitingAckStep_case hs)
  | idle _ hs hw => exact .idle hs hw
  | command w rest _ _ hs hi hn hc => exact .command w rest t hs hi hn hc

/-! ### What the branches leave alone -/

/-- A handshake step writes neither the configuration nor the Pixel Buffer. -/
theorem HandshakeCase.cfg_buf {s t : State} (h : HandshakeCase s t) : t.cfg = s.cfg ∧ t.buf = s.buf := by
  cases h <;>
    simp [State.raiseFault_frame, State.overflowFault_frame, firstAckStep, secondAckStep, State.logAck_eq]

/-- What no accepted command word writes. -/
theorem CommandCase.frame {w : Word} {s t : State} (h : CommandCase w s t) :
    t.cfg = s.cfg ∧ t.reconnectAttempts = s.reconnectAttempts ∧ t.lastAck = s.lastAck ∧ t.ackRaw0 = s.ackRaw0 ∧
    t.ackRaw1 = s.ackRaw1 ∧ t.chkStatus = s.chkStatus ∧ t.chkSum = s.chkSum := by
  cases h <;> simp [State.overflowFault_frame]

/-- No step writes the configuration while `rst` is low. -/
theorem WorkCase.cfg {s t : State} (h : WorkCase s t) : t.cfg = s.cfg := by
  cases h with
  | handshake _ hc => exact hc.cfg_buf.1
  | idle => rfl
  | command _ _ _ _ _ _ hc => exact hc.frame.1

/-- Settles O59: a reset keeps the configuration by its definition, every other step by its branches. -/
theorem everyStepGoesOnAndKeepsTheConfiguration : Obligations.EveryStepGoesOnAndKeepsTheConfiguration := by
  intro s
  obtain ⟨t, ht, -⟩ := step_next s
  refine ⟨t, ht, ?_⟩
  cases hr : s.rstAsserted with
  | true =>
    rw [step_of_rst hr ht]
    rfl
  | false => exact (step_of_low hr ht).cfg

/-! ### The Pixel Buffer -/

/-- The commands that write the Pixel Buffer (10 R23, 20 R59). -/
def IsBufferCommand (i : Instr) : Prop :=
  (∃ x y v, i = .setPixel x y v) ∨ (∃ v, i = .setAll v) ∨ (∃ k v, i = .setChipGroup k v)

/-- An accepted word changes the buffer only where it decodes to a buffer command in a state that runs commands. -/
theorem CommandCase.buf_eq_or_bufferCommand {w : Word} {s t : State} (h : CommandCase w s t) :
    t.buf = s.buf ∨
      (s.state ≠ .failed ∧ s.state ≠ .closed) ∧ ∃ i, decode w = .ok i ∧ IsBufferCommand i := by
  cases h with
  | setPixelIn x y v _ hs hd => exact .inr ⟨hs, _, hd, .inl ⟨x, y, v, rfl⟩⟩
  | setAll v hs hd => exact .inr ⟨hs, _, hd, .inr (.inl ⟨v, rfl⟩)⟩
  | chipGroup k v hs hd => exact .inr ⟨hs, _, hd, .inr (.inr ⟨k, v, rfl⟩)⟩
  | serializeOverflow => exact .inl (State.overflowFault_frame _).2.1
  | _ => exact .inl rfl

/-- Settles O17: the handshake steps and the waiting ones keep the buffer, so a change comes from a reset or a buffer command. -/
theorem onlyBufferCommandsWriteTheBuffer : Obligations.OnlyBufferCommandsWriteTheBuffer := by
  intro s t ht hne
  cases hr : s.rstAsserted with
  | true => exact .inl rfl
  | false =>
    cases step_of_low hr ht with
    | handshake _ hc => exact absurd hc.cfg_buf.2 hne
    | idle => exact absurd rfl hne
    | command w rest _ hs hi _ hc =>
      obtain hkeep | ⟨⟨hf, hcl⟩, i, hd, hbuf⟩ := hc.buf_eq_or_bufferCommand
      · exact absurd hkeep hne
      · exact .inr ⟨hs.resolve_right (not_or.mpr ⟨hf, hcl⟩), w, rest, i, hi, hd, hbuf⟩

/-! ### FAULT and FAILED -/

/-- What a step may do to `FAULT`: keep it, with `FAILED` neither entered nor left; or enter `FAILED` with the fault code that
fault entry keeps (60 R203). -/
def KeepsOrRaisesFault (s t : State) : Prop :=
  (t.fault = s.fault ∧ (t.state = .failed ↔ s.state = .failed)) ∨
  (t.state = .failed ∧ ∃ c, c ≠ .none ∧ t.fault = s.fault.orFirst c)

theorem State.raiseFault_keepsOrRaisesFault (s : State) {s' : State} {c : FaultCode} (hc : c ≠ .none) (hf : s'.fault = s.fault) :
    KeepsOrRaisesFault s (s'.raiseFault c) :=
  .inr ⟨by simp, c, hc, by simp [hf]⟩

theorem State.overflowFault_keepsOrRaisesFault (s : State) {s' : State} (hf : s'.fault = s.fault) :
    KeepsOrRaisesFault s s'.overflowFault :=
  s.raiseFault_keepsOrRaisesFault (by decide) (by simpa using hf)

theorem HandshakeCase.keepsOrRaisesFault {s t : State} (h : HandshakeCase s t) : KeepsOrRaisesFault s t := by
  cases h with
  | checksumMismatch | openFailed | resetWriteFailed | rebootFailed | reconnectExhausted =>
    exact s.raiseFault_keepsOrRaisesFault (by decide) rfl
  | sendOverflow => exact s.overflowFault_keepsOrRaisesFault rfl
  | start hs => exact .inl ⟨rfl, by cases s.cfg.initOrder <;> simp [firstState, hs]⟩
  | validated hs => exact .inl ⟨rfl, by cases s.cfg.initOrder <;> simp [validatedState, hs]⟩
  | opened hs | reconnected hs => exact .inl ⟨rfl, by cases h : s.cfg.initOrder <;> simp [linkUpState, hs, h]⟩
  | openedForReset hs | resetWritten hs | stillReconnecting hs | sendFailed hs | sent hs =>
    exact .inl ⟨rfl, by simp [hs]⟩
  | firstRead hs | secondRead hs => exact .inl (by simp [firstAckStep, secondAckStep, State.logAck_eq, hs])

theorem CommandCase.keepsOrRaisesFault {w : Word} {s t : State} (h : CommandCase w s t) : KeepsOrRaisesFault s t := by
  cases h with
  | serializeOverflow => exact s.overflowFault_keepsOrRaisesFault rfl
  | send hs | close hs => exact .inl ⟨rfl, by simp [hs]⟩
  | _ => exact .inl ⟨rfl, Iff.rfl⟩

theorem WorkCase.keepsOrRaisesFault {s t : State} (h : WorkCase s t) : KeepsOrRaisesFault s t := by
  cases h with
  | handshake _ hc => exact hc.keepsOrRaisesFault
  | idle => exact .inl ⟨rfl, Iff.rfl⟩
  | command _ _ _ _ _ _ hc => exact hc.keepsOrRaisesFault

/-- Settles O44: a reset clears `FAULT` and leaves `FAILED`; every other step keeps both or sets both. -/
theorem stepKeepsFaultInvariant : Obligations.StepKeepsFaultInvariant := by
  intro s t hinv ht
  cases hr : s.rstAsserted with
  | true =>
    rw [step_of_rst hr ht]
    simp [FaultMatchesState, applyReset, State.resetWith]
  | false =>
    obtain ⟨hf, hst⟩ | ⟨hst, c, hc, hf⟩ := (step_of_low hr ht).keepsOrRaisesFault
    · rw [FaultMatchesState, hst, hf]
      exact hinv
    · rw [FaultMatchesState, hf]
      exact iff_of_true hst (FaultCode.orFirst_ne_none hc _)

/-- Settles O53: fault entry keeps the first fault and ends in `FAILED`, and no other step writes `FAULT` or leaves `FAILED`. -/
theorem firstFaultIsKeptUntilReset : Obligations.FirstFaultIsKeptUntilReset := by
  intro s t hr ht
  obtain ⟨hf, hst⟩ | ⟨hst, c, hc, hf⟩ := (step_of_low hr ht).keepsOrRaisesFault
  · exact ⟨fun _ => hf, fun hne => absurd hf hne, hst.mpr⟩
  · exact ⟨fun hne => hf.trans (FaultCode.orFirst_of_ne hne c), fun _ => hst, fun _ => hst⟩

/-! ### The outcome registers and the response -/

/-- A handshake step writes `LAST_ACK` and the raw registers only in `SENDING` and `AWAITING_ACK` (10 R30, R31). -/
theorem HandshakeCase.ack_frame {s t : State} (h : HandshakeCase s t) (hs : s.state ≠ .sending) (hs' : s.state ≠ .awaitingAck) :
    t.lastAck = s.lastAck ∧ t.ackRaw0 = s.ackRaw0 ∧ t.ackRaw1 = s.ackRaw1 := by
  cases h with
  | sendOverflow h | sendFailed h | sent h => exact absurd h hs
  | firstRead h | secondRead h => exact absurd h hs'
  | _ => simp [State.raiseFault_frame]

/-- A handshake step writes the validation report only in `VALIDATING` (10 R32, R34). -/
theorem HandshakeCase.report_frame {s t : State} (h : HandshakeCase s t) (hs : s.state ≠ .validating) :
    t.chkStatus = s.chkStatus ∧ t.chkSum = s.chkSum := by
  cases h with
  | validated h | checksumMismatch h => exact absurd h hs
  | _ => simp [State.raiseFault_frame, State.overflowFault_frame, firstAckStep, secondAckStep, State.logAck_eq]

/-- A handshake step writes the attempt counter only in `RESETTING` and `RECONNECTING` (10 R26). -/
theorem HandshakeCase.attempts_frame {s t : State} (h : HandshakeCase s t) (hs : s.state ≠ .resetting)
    (hs' : s.state ≠ .reconnecting) : t.reconnectAttempts = s.reconnectAttempts := by
  cases h with
  | resetWriteFailed h | resetWritten h => exact absurd h hs
  | rebootFailed h | reconnected h | reconnectExhausted h | stillReconnecting h => exact absurd h hs'
  | _ => simp [State.raiseFault_frame, State.overflowFault_frame, firstAckStep, secondAckStep, State.logAck_eq]

/-- Settles O55: a command word writes none of these registers, and each handshake step only those of its own state. -/
theorem outcomeRegistersAreWrittenOnlyByTheirSteps : Obligations.OutcomeRegistersAreWrittenOnlyByTheirSteps := by
  intro s t hr ht
  cases step_of_low hr ht with
  | handshake _ hc => exact ⟨hc.ack_frame, hc.report_frame, hc.attempts_frame⟩
  | idle => exact ⟨fun _ _ => ⟨rfl, rfl, rfl⟩, fun _ => ⟨rfl, rfl⟩, fun _ _ => rfl⟩
  | command _ _ _ _ _ _ hc =>
    obtain ⟨-, hattempts, hack, hraw0, hraw1, hchk, hsum⟩ := hc.frame
    exact ⟨fun _ _ => ⟨hack, hraw0, hraw1⟩, fun _ => ⟨hchk, hsum⟩, fun _ _ => hattempts⟩

/-- What a step may do to the response port and to `LAST_STATUS`: leave both, or put out a response and write its status, which
is never `NONE` (10 R29, 30 R77). -/
def KeepsOrResponds (s t : State) : Prop :=
  (t.rsp = s.rsp ∧ t.lastStatus = s.lastStatus) ∨
  ∃ status ack slot, status ≠ .none ∧ t.rsp = some (packResponse status ack slot) ∧ t.lastStatus = status

theorem State.respond_keepsOrResponds (s s' : State) {status : Status} (hst : status ≠ .none) (ack : AckClass)
    (slot : Option Slot) :
    KeepsOrResponds s (s'.respond status ack slot) :=
  .inr ⟨status, ack, slot, hst, rfl, rfl⟩

/-- Fault entry responds where a command is in progress, and keeps the port otherwise. -/
theorem State.raiseFault_keepsOrResponds {s s' : State} (hrsp : s'.rsp = s.rsp) (hst : s'.lastStatus = s.lastStatus)
    (c : FaultCode) : KeepsOrResponds s (s'.raiseFault c) := by
  obtain ⟨hrsp', hst'⟩ := s'.raiseFault_rsp c
  cases hc : s'.cmd with
  | none => exact .inl (by simp [hrsp', hst', hc, hrsp, hst])
  | some i => exact .inr ⟨.faulted, .none, none, by decide, by simp [hrsp', hc], by simp [hst', hc]⟩

theorem State.overflowFault_keepsOrResponds {s s' : State} (hrsp : s'.rsp = s.rsp) (hst : s'.lastStatus = s.lastStatus) :
    KeepsOrResponds s s'.overflowFault :=
  State.raiseFault_keepsOrResponds (s' := s'.log _) hrsp hst _

theorem HandshakeCase.keepsOrResponds {s t : State} (h : HandshakeCase s t) : KeepsOrResponds s t := by
  cases h with
  | checksumMismatch | openFailed | resetWriteFailed | rebootFailed | reconnectExhausted =>
    exact State.raiseFault_keepsOrResponds (by rfl) (by rfl) _
  | sendOverflow => exact State.overflowFault_keepsOrResponds (by rfl) (by rfl)
  | sendFailed | secondRead => exact s.respond_keepsOrResponds _ (by decide) _ _
  | _ => exact .inl ⟨rfl, rfl⟩

theorem CommandCase.keepsOrResponds {w : Word} {s t : State} (h : CommandCase w s t) : KeepsOrResponds s t := by
  cases h with
  | serializeOverflow => exact State.overflowFault_keepsOrResponds (by rfl) (by rfl)
  | send => exact .inl ⟨rfl, rfl⟩
  | _ => exact s.respond_keepsOrResponds _ (by decide) _ _

/-- Every step takes the old response away before it does its work. -/
theorem WorkCase.keepsOrResponds {s t : State} (h : WorkCase s t) : KeepsOrResponds s.tick t := by
  cases h with
  | handshake _ hc => exact hc.keepsOrResponds
  | idle => exact .inl ⟨rfl, rfl⟩
  | command _ _ _ _ _ _ hc => exact hc.keepsOrResponds

/-- The status codes below 7 are those of a response (30 R77). -/
theorem Status.code_lt {status : Status} (h : status ≠ .none) : status.code < 7#4 := by
  cases status with
  | none => exact absurd rfl h
  | _ => decide

/-- Settles O11: the response and `LAST_STATUS` are written together, by a response, or neither is. -/
theorem lastStatusIsTheStatusOfTheResponse : Obligations.LastStatusIsTheStatusOfTheResponse := by
  refine ⟨fun s t hr ht => ?_, fun _ => rfl⟩
  obtain ⟨hrsp, hst⟩ | ⟨status, ack, slot, hne, hrsp, hst⟩ := (step_of_low hr ht).keepsOrResponds
  · have hnone : t.rsp = none := hrsp
    exact ⟨fun w hw => by simp [hnone] at hw, fun _ => hst⟩
  · refine ⟨fun w hw => ?_, fun hnone => by simp [hnone] at hrsp⟩
    obtain rfl : packResponse status ack slot = w := by simpa [hrsp] using hw
    rw [packResponse_status, ← hst]
    exact ⟨rfl, hst ▸ Status.code_lt hne⟩

/-! ### The hidden state -/

/-- No command in progress, no snapshot, no first read result. -/
def HiddenEmpty (s : State) : Prop := s.cmd = none ∧ s.snapshot = none ∧ s.ack0 = none

theorem hiddenMatches_of_empty {s : State} (h : HiddenEmpty s) (hs : ¬ (s.state = .sending ∨ s.state = .awaitingAck)) :
    HiddenMatchesState s := by
  obtain ⟨hcmd, hsnap, hack⟩ := h
  rw [not_or] at hs
  simp [HiddenMatchesState, hcmd, hsnap, hack, hs]

/-- Where no command is in progress, nothing of the hidden state stands. -/
theorem HiddenMatchesState.empty_of_cmd {s : State} (h : HiddenMatchesState s) (hc : s.cmd = none) : HiddenEmpty s := by
  obtain ⟨hcmd, hsnap, hack⟩ := h
  have hs : ¬ (s.state = .sending ∨ s.state = .awaitingAck) := fun hs => by simp [hc, hs] at hcmd
  refine ⟨hc, by rw [hsnap, if_neg fun e => hs (.inr e)], ?_⟩
  exact Option.eq_none_iff_forall_not_mem.mpr fun a ha => hs (.inr (hack a ha).1)

/-- Outside a SEND nothing of the hidden state stands. -/
theorem HiddenMatchesState.empty {s : State} (h : HiddenMatchesState s) (hs : ¬ (s.state = .sending ∨ s.state = .awaitingAck)) :
    HiddenEmpty s :=
  h.empty_of_cmd (h.1.trans (if_neg hs))

/-- A response leaves no hidden state. -/
theorem State.respond_hiddenMatches {s : State} (hs : ¬ (s.state = .sending ∨ s.state = .awaitingAck)) (status : Status)
    (ack : AckClass) (slot : Option Slot) : HiddenMatchesState (s.respond status ack slot) :=
  hiddenMatches_of_empty ⟨rfl, rfl, rfl⟩ hs

/-- Fault entry leaves no hidden state, where there was a command or no hidden state. -/
theorem State.raiseFault_hiddenMatches {s : State} (h : s.cmd = none → HiddenEmpty s) (c : FaultCode) :
    HiddenMatchesState (s.raiseFault c) := by
  have hleft := s.raiseFault_hidden c fun hc => (h hc).2
  exact hiddenMatches_of_empty ⟨by simp, hleft⟩ (by simp)

theorem State.overflowFault_hiddenMatches {s : State} (h : s.cmd = none → HiddenEmpty s) :
    HiddenMatchesState s.overflowFault :=
  State.raiseFault_hiddenMatches (s := s.log _) h _

/-- A handshake step keeps the invariant of the hidden state: outside a SEND there is nothing to keep, and in it the write takes
the snapshot, the first read is recorded, and the second read responds (10 R37). -/
theorem HandshakeCase.hiddenMatches {s t : State} (h : HandshakeCase s t) (hinv : HiddenMatchesState s) :
    HiddenMatchesState t := by
  cases h with
  | checksumMismatch | openFailed | resetWriteFailed | rebootFailed | reconnectExhausted =>
    exact State.raiseFault_hiddenMatches (by exact hinv.empty_of_cmd) _
  | sendOverflow => exact State.overflowFault_hiddenMatches hinv.empty_of_cmd
  | sendFailed | secondRead => exact State.respond_hiddenMatches (by simp) _ _ _
  | start hs =>
    exact hiddenMatches_of_empty (hinv.empty (by simp [hs])) (by cases s.cfg.initOrder <;> simp [firstState])
  | validated hs =>
    exact hiddenMatches_of_empty (hinv.empty (by simp [hs])) (by cases s.cfg.initOrder <;> simp [validatedState])
  | opened hs | reconnected hs =>
    exact hiddenMatches_of_empty (hinv.empty (by simp [hs]))
      (by cases h : s.cfg.initOrder <;> simp [State.linkUp, linkUpState, h])
  | openedForReset hs | resetWritten hs | stillReconnecting hs =>
    exact hiddenMatches_of_empty (hinv.empty (by simp [hs])) (by simp)
  | sent hs =>
    obtain ⟨hcmd, -, hack⟩ := hinv
    have hnone : ∀ a, a ∉ s.ack0 := fun a ha => by simpa [hs] using (hack a ha).1
    exact ⟨by simpa [hs] using hcmd, rfl, fun a ha => absurd ha (hnone a)⟩
  | firstRead hs =>
    obtain ⟨hcmd, hsnap, -⟩ := hinv
    exact ⟨hcmd, hsnap, fun a ha => ⟨hs, congrArg kindAndByte (Option.mem_some_iff.mp ha)⟩⟩

/-- An accepted word begins a SEND, or its command completes at once and leaves no hidden state. -/
theorem CommandCase.hiddenMatches {w : Word} {s t : State} (h : CommandCase w s t) (hempty : HiddenEmpty s)
    (hs : ¬ (s.state = .sending ∨ s.state = .awaitingAck)) : HiddenMatchesState t := by
  cases h with
  | serializeOverflow => exact State.overflowFault_hiddenMatches (fun hc => by simp at hc)
  | send =>
    obtain ⟨-, hsnap, hack⟩ := hempty
    simp [HiddenMatchesState, hsnap, hack]
  | close => exact State.respond_hiddenMatches (by simp) _ _ _
  | _ => exact State.respond_hiddenMatches (by simpa using hs) _ _ _

/-- Settles O45: a reset and a response empty the hidden state, and a SEND fills it step by step. -/
theorem stepKeepsHiddenStateInvariant : Obligations.StepKeepsHiddenStateInvariant := by
  intro s t hinv ht
  cases hr : s.rstAsserted with
  | true =>
    rw [step_of_rst hr ht]
    exact hiddenMatches_of_empty ⟨rfl, rfl, rfl⟩ (by simp [applyReset, State.resetWith])
  | false =>
    cases step_of_low hr ht with
    | handshake _ hc => exact hc.hiddenMatches hinv
    | idle => exact hinv
    | command _ _ _ hs _ hn hc =>
      exact hc.hiddenMatches (hinv.empty_of_cmd hn) (by rcases hs with hs | hs | hs <;> simp [hs])

/-! ### The status port -/

/-- The sums of the validator stand at 0x10 to 0x1F. -/
theorem statusRead_chkSum (s : State) (c : Fin 16) :
    statusRead s (BitVec.ofNat 8 (0x10 + c.val)) = (s.chkSum[c]).setWidth 32 := by
  have ha : (BitVec.ofNat 8 (0x10 + c.val)).toNat = c.val + 6 + 10 := by
    rw [BitVec.toNat_ofNat]
    omega
  have hmap : 0x10 ≤ c.val + 6 + 10 ∧ c.val + 6 + 10 < 0x20 := by omega
  simp only [statusRead, ha, dif_pos hmap]
  rfl

/-- Addresses from 0x0A to 0x0F and from 0x20 on are not in the map. -/
theorem statusRead_unmapped (s : State) {a : BitVec 8} (h : (0x0A ≤ a.toNat ∧ a.toNat < 0x10) ∨ 0x20 ≤ a.toNat) :
    statusRead s a = 0#32 := by
  obtain ⟨n, hn⟩ : ∃ n, a.toNat = n + 10 := ⟨a.toNat - 10, by omega⟩
  have hout : ¬ (0x10 ≤ n + 10 ∧ n + 10 < 0x20) := by omega
  simp only [statusRead, hn]
  rw [dif_neg hout]

/-- Settles O56: each mapped address by its register's codes, the sums and the unmapped addresses by their ranges. -/
theorem statusReadMap : Obligations.StatusReadMap := by
  intro s
  refine ⟨?_, ?_, ?_, ?_, ?_, ?_, ?_, rfl, rfl, ?_, fun c => ?_, fun a ha => statusRead_unmapped s ha⟩
  · show s.state.code.setWidth 32 = _
    cases s.state <;> rfl
  · show s.fault.code.setWidth 32 = _
    cases s.fault <;> rfl
  · show s.lastStatus.code.setWidth 32 = _
    cases s.lastStatus <;> rfl
  · show s.lastAck.code.setWidth 32 = _
    cases s.lastAck <;> rfl
  · exact BitVec.toNat_setWidth_of_le (by decide)
  · exact BitVec.toNat_setWidth_of_le (by decide)
  · show s.chkStatus.code.setWidth 32 = _
    cases s.chkStatus <;> rfl
  · show (BitVec.ofBool s.handleOpen).setWidth 32 = _
    cases s.handleOpen <;> rfl
  · rw [statusRead_chkSum]
    exact BitVec.toNat_setWidth_of_le (by decide)

/-! ### The outcome fields decide nothing

`forgetOutcomes` sets the outcome fields and the log to fixed values. Each operation, run on a state so emptied, gives the same
state as before up to those fields; so a step does. -/

/-- The state without what 10 R35 calls the outcome fields, and without the log. -/
def State.forgetOutcomes (s : State) : State :=
  { s with
    fault := .none, lastStatus := .none, lastAck := .none, ackRaw0 := 0#10, ackRaw1 := 0#10
    chkStatus := .notRun, chkSum := Vector.replicate 16 0#16, logOut := [] }

/-- The outcome of a step, without the outcome fields of its next state. -/
def forgetOutcomesIn : Host.Outcome State Fault Refusal → Host.Outcome State Fault Refusal
  | .next s => .next s.forgetOutcomes
  | .fault r => .fault r
  | .refused r => .refused r

/-- Two states differ only in the outcome fields and the log exactly where they agree without them. -/
theorem forgetOutcomes_eq_iff (s t : State) :
    t.forgetOutcomes = s.forgetOutcomes ↔
      t = { s with
        fault := t.fault, lastStatus := t.lastStatus, lastAck := t.lastAck, ackRaw0 := t.ackRaw0, ackRaw1 := t.ackRaw1
        chkStatus := t.chkStatus, chkSum := t.chkSum, logOut := t.logOut } := by
  cases s
  cases t
  simp [State.forgetOutcomes]

/-- Fault entry reads the handle and the command in progress, and no outcome field but the fault that it keeps. -/
theorem State.raiseFault_forgetOutcomes {s t : State} (h : s.forgetOutcomes = t.forgetOutcomes) (c : FaultCode) :
    (s.raiseFault c).forgetOutcomes = (t.raiseFault c).forgetOutcomes := by
  rw [(forgetOutcomes_eq_iff t s).mp h]
  cases t with
  | mk cfg buf state handleOpen attempts fault lastStatus lastAck raw0 raw1 chkStatus chkSum cmd =>
    cases handleOpen <;> cases cmd <;> rfl

theorem State.overflowFault_forgetOutcomes (s : State) :
    s.forgetOutcomes.overflowFault.forgetOutcomes = s.overflowFault.forgetOutcomes :=
  State.raiseFault_forgetOutcomes (by rfl) _

@[simp] theorem State.forgetOutcomes_cfg (s : State) : s.forgetOutcomes.cfg = s.cfg := rfl
@[simp] theorem State.forgetOutcomes_state (s : State) : s.forgetOutcomes.state = s.state := rfl
@[simp] theorem State.forgetOutcomes_ack0 (s : State) : s.forgetOutcomes.ack0 = s.ack0 := rfl
@[simp] theorem State.forgetOutcomes_cmdIn (s : State) : s.forgetOutcomes.cmdIn = s.cmdIn := rfl
@[simp] theorem State.forgetOutcomes_cmdReady (s : State) : s.forgetOutcomes.cmdReady = s.cmdReady := rfl
@[simp] theorem State.forgetOutcomes_overflows (s : State) : s.forgetOutcomes.overflows = s.overflows := rfl
@[simp] theorem State.forgetOutcomes_openAnswer (s : State) : s.forgetOutcomes.openAnswer = s.openAnswer := rfl
@[simp] theorem State.forgetOutcomes_writeAnswer (s : State) : s.forgetOutcomes.writeAnswer = s.writeAnswer := rfl
@[simp] theorem State.forgetOutcomes_rstAsserted (s : State) : s.forgetOutcomes.rstAsserted = s.rstAsserted := rfl
@[simp] theorem State.forgetOutcomes_tick (s : State) : s.forgetOutcomes.tick = s.tick.forgetOutcomes := rfl

theorem validatingStep_of_ok {s : State} {sums : Vector Nat 16} (hv : validate s.cfg.table = .ok sums) :
    validatingStep s = (s.report sums .passed).goto (validatedState s.cfg.initOrder) := by
  unfold validatingStep
  rw [hv]

theorem validatingStep_of_mismatch {s : State} {expected : Nat} {sums : Vector Nat 16}
    (hv : validate s.cfg.table = .checksumMismatch expected sums) :
    validatingStep s =
      ((s.report sums .failed).log (.checksumMismatch (BitVec.ofNat 16 expected) (sumRegisters sums))).raiseFault
        .checksumMismatch := by
  unfold validatingStep
  rw [hv]

theorem validatingStep_forgetOutcomes (s : State) :
    (validatingStep s.forgetOutcomes).forgetOutcomes = (validatingStep s).forgetOutcomes := by
  cases hv : validate s.cfg.table with
  | ok sums =>
    rw [validatingStep_of_ok hv, validatingStep_of_ok (s := s.forgetOutcomes) hv]
    rfl
  | checksumMismatch expected sums =>
    rw [validatingStep_of_mismatch hv, validatingStep_of_mismatch (s := s.forgetOutcomes) hv]
    exact State.raiseFault_forgetOutcomes (by rfl) _

theorem openingStep_forgetOutcomes (s : State) :
    (openingStep s.forgetOutcomes).forgetOutcomes = (openingStep s).forgetOutcomes := by
  cases ha : s.openAnswer with
  | error =>
    simp only [openingStep, State.forgetOutcomes_openAnswer, ha]
    exact State.raiseFault_forgetOutcomes (by rfl) _
  | ok =>
    by_cases hr : s.cfg.resetOnStart = true <;>
      simp only [openingStep, State.forgetOutcomes_openAnswer, State.forgetOutcomes_cfg, ha, hr] <;> rfl

theorem resettingStep_forgetOutcomes (s : State) :
    (resettingStep s.forgetOutcomes).forgetOutcomes = (resettingStep s).forgetOutcomes := by
  simp only [resettingStep, State.forgetOutcomes_writeAnswer]
  cases s.writeAnswer with
  | error => exact State.raiseFault_forgetOutcomes (by rfl) _
  | ok => rfl

theorem reconnectingStep_forgetOutcomes (s : State) :
    (reconnectingStep s.forgetOutcomes).forgetOutcomes = (reconnectingStep s).forgetOutcomes := by
  have hreopen : s.forgetOutcomes.reopen.reconnectAttempts = s.reopen.reconnectAttempts := rfl
  cases ha : s.openAnswer with
  | ok =>
    by_cases hn : s.reopen.reconnectAttempts = 1#32 <;>
      simp only [reconnectingStep, State.forgetOutcomes_openAnswer, ha, hreopen, hn, if_true, if_false]
    · exact State.raiseFault_forgetOutcomes (by rfl) _
    · rfl
  | error =>
    by_cases hb : boundReached s.cfg.maxReconnect s.reopen.reconnectAttempts = true <;>
      simp only [reconnectingStep, State.forgetOutcomes_openAnswer, State.forgetOutcomes_cfg, ha, hreopen, hb, if_true,
        Bool.false_eq_true, if_false]
    · exact State.raiseFault_forgetOutcomes (by rfl) _
    · rfl

theorem sendingStep_forgetOutcomes (s : State) :
    (sendingStep s.forgetOutcomes).forgetOutcomes = (sendingStep s).forgetOutcomes := by
  cases ho : s.overflows with
  | true =>
    simp only [sendingStep, State.forgetOutcomes_overflows, ho, if_true]
    exact s.overflowFault_forgetOutcomes
  | false =>
    simp only [sendingStep, State.forgetOutcomes_overflows, ho, Bool.false_eq_true, if_false, State.forgetOutcomes_writeAnswer]
    cases s.writeAnswer <;> rfl

/-- The class of an acknowledgment is made from the two read results, not from the raw registers. -/
theorem awaitingAckStep_forgetOutcomes (s : State) :
    (awaitingAckStep s.forgetOutcomes).forgetOutcomes = (awaitingAckStep s).forgetOutcomes := by
  simp only [awaitingAckStep, State.forgetOutcomes_ack0]
  cases s.ack0 with
  | none => rfl
  | some a0 =>
    dsimp only [secondAckStep]
    rw [State.logAck_eq, State.logAck_eq]
    rfl

theorem exec_forgetOutcomes (i : Instr) (s : State) :
    forgetOutcomesIn (exec i s.forgetOutcomes) = forgetOutcomesIn (exec i s) := by
  cases i with
  | resolve x y =>
    simp only [exec, execResolve, State.forgetOutcomes_cfg]
    cases s.cfg.table.resolve x y <;> rfl
  | setPixel x y v =>
    simp only [exec, execSetPixel, State.forgetOutcomes_cfg]
    cases s.cfg.table.resolve x y <;> rfl
  | setChipGroup k v =>
    by_cases hk : k < 3 <;> simp only [exec, execSetChipGroup, hk, if_true, if_false] <;> rfl
  | serialize =>
    cases ho : s.overflows with
    | true =>
      simp only [exec, execSerialize, State.forgetOutcomes_overflows, ho, if_true]
      exact congrArg Host.Outcome.next s.overflowFault_forgetOutcomes
    | false =>
      simp only [exec, execSerialize, State.forgetOutcomes_overflows, ho, Bool.false_eq_true, if_false]
      rfl
  | setAll | send | close => rfl

theorem runCommandWord_forgetOutcomes (w : Word) (s : State) :
    forgetOutcomesIn (runCommandWord w s.forgetOutcomes) = forgetOutcomesIn (runCommandWord w s) := by
  by_cases hs : s.state = .failed ∨ s.state = .closed
  · simp only [runCommandWord, State.forgetOutcomes_state, hs, if_true]
    rfl
  · simp only [runCommandWord, State.forgetOutcomes_state, hs, if_false]
    cases decode w with
    | error e => rfl
    | ok i => exact exec_forgetOutcomes i (s.beginCommand i)

theorem commandStep_forgetOutcomes (s : State) :
    forgetOutcomesIn (commandStep s.forgetOutcomes) = forgetOutcomesIn (commandStep s) := by
  cases hi : s.cmdIn with
  | nil =>
    simp only [commandStep, State.forgetOutcomes_cmdIn, hi]
    rfl
  | cons w rest =>
    cases hc : s.cmdReady with
    | true =>
      simp only [commandStep, State.forgetOutcomes_cmdIn, State.forgetOutcomes_cmdReady, hi, hc, if_true]
      exact runCommandWord_forgetOutcomes w { s with cmdIn := rest }
    | false =>
      simp only [commandStep, State.forgetOutcomes_cmdIn, State.forgetOutcomes_cmdReady, hi, hc, Bool.false_eq_true, if_false]
      rfl

theorem handshakeStep_forgetOutcomes (s : State) :
    forgetOutcomesIn (handshakeStep s.forgetOutcomes) = forgetOutcomesIn (handshakeStep s) := by
  simp only [handshakeStep, State.forgetOutcomes_state]
  cases s.state with
  | disconnected => rfl
  | validating => exact congrArg Host.Outcome.next (validatingStep_forgetOutcomes s)
  | opening => exact congrArg Host.Outcome.next (openingStep_forgetOutcomes s)
  | resetting => exact congrArg Host.Outcome.next (resettingStep_forgetOutcomes s)
  | reconnecting => exact congrArg Host.Outcome.next (reconnectingStep_forgetOutcomes s)
  | sending => exact congrArg Host.Outcome.next (sendingStep_forgetOutcomes s)
  | awaitingAck => exact congrArg Host.Outcome.next (awaitingAckStep_forgetOutcomes s)
  | connected | failed | closed => exact commandStep_forgetOutcomes s

/-- A reset reads the handle, the configuration and the ports, which are no outcome fields. -/
theorem applyReset_forgetOutcomes (r : Option TxRequest) (s : State) :
    applyReset r s.forgetOutcomes = applyReset r s := by
  simp only [applyReset, State.closeIfOpen_eq]
  rfl

/-- A step commutes with forgetting the outcome fields: it decides nothing by them (10 R35). -/
theorem step_forgetOutcomes (s : State) : forgetOutcomesIn (step s.forgetOutcomes) = forgetOutcomesIn (step s) := by
  have hcut : s.forgetOutcomes.cutRequest = s.cutRequest := rfl
  simp only [step, blockStep, State.forgetOutcomes_rstAsserted, State.forgetOutcomes_tick, hcut, applyReset_forgetOutcomes]
  cases hr : s.rstAsserted with
  | true => rfl
  | false => exact handshakeStep_forgetOutcomes s.tick

/-- Settles O60: the two states are one without the outcome fields, so their next states are. -/
theorem outcomeFieldsDecideNothing : Obligations.OutcomeFieldsDecideNothing := by
  intro s t s' t' hst hs ht
  have hsame : t.forgetOutcomes = s.forgetOutcomes := (forgetOutcomes_eq_iff s t).mpr hst
  have hnext : forgetOutcomesIn (step t) = forgetOutcomesIn (step s) := by
    rw [← step_forgetOutcomes t, hsame, step_forgetOutcomes]
  rw [hs, ht] at hnext
  exact (forgetOutcomes_eq_iff s' t').mp (Host.Outcome.next.inj hnext)

end Sys2Proof.Machine

/-! PROOFS, family `20_memory.md`: the numbering of the slots, the bytes of a frame, the buffer commands done twice, and what a step
does to the queue of presented commands, to the response port, and to the bytes written on the Transport. The statements about
steps go by the branches `HandshakeCase`, `CommandCase` and `WorkCase`. -/

namespace Sys2Proof

/-! ### The numbering of the slots -/

/-- The slot found by division has the index it was found from (20 R53). -/
@[simp] theorem Slot.index_ofIndex (i : Fin 144) : (Slot.ofIndex i).index = i := by
  apply Fin.ext
  simp only [Slot.index, Slot.ofIndex]
  omega

/-- Division finds every slot from its index: `channel·3 + colorLane < 48` and `colorLane < 3` (20 R53). -/
@[simp] theorem Slot.ofIndex_index (k : Slot) : Slot.ofIndex k.index = k := by
  obtain ⟨chip, channel, color⟩ := k
  simp only [Slot.ofIndex, Slot.index, Slot.mk.injEq, Fin.ext_iff]
  omega

end Sys2Proof

namespace Sys2Proof.Machine

/-- Settles O18: `Slot.ofIndex` is the inverse of `Slot.index` on both sides. -/
theorem slotIndexNumbersTheSlots : Obligations.SlotIndexNumbersTheSlots := by
  refine ⟨fun k => rfl, fun i => ⟨Slot.ofIndex i, Slot.index_ofIndex i, ?_⟩, ?_⟩
  · rintro k rfl
    exact (Slot.ofIndex_index k).symm
  · rintro i k rfl
    have hchip := congrArg (·.chip.val) (Slot.ofIndex_index k)
    have hchannel := congrArg (·.channel.val) (Slot.ofIndex_index k)
    have hcolor := congrArg (·.color.val) (Slot.ofIndex_index k)
    exact ⟨hchip.symm, hchannel.symm, hcolor.symm⟩

/-! ### The bytes of a frame -/

/-- Two sync bytes and two bytes for each of the 144 entries (20 R54). -/
@[simp] theorem length_frame (b : Vector Intensity 144) : (frame b).length = 290 := by
  rw [frame, List.length_append, length_intensityBytes, Vector.length_toList]
  rfl

/-- Settles O25: the length from the 144 entries, the bytes of each entry from `frame_getElem`. -/
theorem frameLayout : Obligations.FrameLayout := by
  intro b
  refine ⟨length_frame b, rfl, rfl, fun i => ?_⟩
  obtain ⟨hhi, hlo⟩ := frame_getElem b i.val
  have hentry : b[i.val]? = some b[i] := Vector.getElem?_eq_getElem i.isLt
  rw [hentry] at hhi hlo
  exact ⟨hhi, hlo⟩

/-! ### The buffer commands, done twice -/

@[simp] theorem State.respond_respond (s : State) (status : Status) (ack : AckClass) (slot : Option Slot) :
    (s.respond status ack slot).respond status ack slot = s.respond status ack slot := rfl

/-- A response leaves the buffer alone, so a write of an entry may stand before it or after it. -/
theorem State.writeSlot_respond (s : State) (i : Fin 144) (v : Intensity) (status : Status) (ack : AckClass)
    (slot : Option Slot) : (s.respond status ack slot).writeSlot i v = (s.writeSlot i v).respond status ack slot := rfl

theorem State.fillSlots_respond (s : State) (lo n : Nat) (v : Intensity) (status : Status) (ack : AckClass)
    (slot : Option Slot) : (s.respond status ack slot).fillSlots lo n v = (s.fillSlots lo n v).respond status ack slot := rfl

@[simp] theorem State.writeSlot_writeSlot (s : State) (i : Fin 144) (v : Intensity) :
    (s.writeSlot i v).writeSlot i v = s.writeSlot i v := by
  simp [State.writeSlot]

@[simp] theorem State.fillSlots_fillSlots (s : State) (lo n : Nat) (v : Intensity) :
    (s.fillSlots lo n v).fillSlots lo n v = s.fillSlots lo n v := by
  simp [State.fillSlots]

theorem execSetPixel_twice {s t : State} {x y : Nat} {v : Intensity} (h : execSetPixel x y v s = .next t) :
    execSetPixel x y v t = .next t := by
  cases hk : s.cfg.table.resolve x y with
  | none =>
    obtain rfl : s.respond .outOfRange .none none = t := by simpa [execSetPixel, hk] using h
    simp [execSetPixel, hk]
  | some k =>
    obtain rfl : (s.writeSlot k.index v).respond .ok .none (some k) = t := by simpa [execSetPixel, hk] using h
    simp [execSetPixel, hk, State.writeSlot_respond]

theorem execSetAll_twice {s t : State} {v : Intensity} (h : execSetAll v s = .next t) : execSetAll v t = .next t := by
  obtain rfl : (s.fillSlots 0 144 v).respond .ok .none none = t := by simpa [execSetAll] using h
  simp [execSetAll, State.fillSlots_respond]

theorem execSetChipGroup_twice {s t : State} {k : Nat} {v : Intensity} (h : execSetChipGroup k v s = .next t) :
    execSetChipGroup k v t = .next t := by
  by_cases hk : k < 3
  · obtain rfl : (s.fillSlots (48 * k) 48 v).respond .ok .none none = t := by simpa [execSetChipGroup, hk] using h
    simp [execSetChipGroup, hk, State.fillSlots_respond]
  · obtain rfl : s.respond .invalidChip .none none = t := by simpa [execSetChipGroup, hk] using h
    simp [execSetChipGroup, hk]

/-- Settles O16: writing the same entries with the same value twice is writing them once, and so is responding. -/
theorem bufferCommandsAreIdempotent : Obligations.BufferCommandsAreIdempotent := by
  rintro s t i (⟨x, y, v, rfl⟩ | ⟨v, rfl⟩ | ⟨k, v, rfl⟩) h
  · exact execSetPixel_twice h
  · exact execSetAll_twice h
  · exact execSetChipGroup_twice h

/-! ### The queue of presented commands -/

/-- `cmd_ready` in words (30 R70). -/
theorem State.cmdReady_iff (s : State) :
    s.cmdReady = true ↔ s.cmd = none ∧ (s.state = .connected ∨ s.state = .failed ∨ s.state = .closed) := by
  unfold State.cmdReady
  cases s.state <;> simp

/-- The states of the handshake are not those in which `cmd_ready` can be 1. -/
theorem HandshakeCase.not_commandState {s t : State} (h : HandshakeCase s t) :
    ¬ (s.state = .connected ∨ s.state = .failed ∨ s.state = .closed) := by
  cases h <;> simp_all

/-- No handshake step takes a word off the command port. -/
theorem HandshakeCase.cmdIn {s t : State} (h : HandshakeCase s t) : t.cmdIn = s.cmdIn := by
  cases h <;> simp [State.raiseFault_frame, State.overflowFault_frame, firstAckStep, secondAckStep, State.logAck_eq]

/-- An accepted word takes no further word with it. -/
theorem CommandCase.cmdIn {w : Word} {s t : State} (h : CommandCase w s t) : t.cmdIn = s.cmdIn := by
  cases h <;> simp [State.overflowFault_frame]

/-- Settles O9: a word leaves the queue only where it is accepted; a wait with an empty queue leaves it empty. -/
theorem commandsAreHeldUntilReady : Obligations.CommandsAreHeldUntilReady := by
  intro s t ht
  cases hr : s.rstAsserted with
  | true =>
    rw [step_of_rst hr ht, if_neg (by simp)]
    rfl
  | false =>
    cases step_of_low hr ht with
    | handshake _ hc =>
      rw [if_neg fun hready => hc.not_commandState hready.2.2]
      exact hc.cmdIn
    | idle hs hw =>
      obtain hempty | hbusy := hw
      · simp [hempty]
      · rw [if_neg fun hready => hbusy hready.2.1]
        rfl
    | command w rest _ hs hi hn hc =>
      rw [if_pos ⟨rfl, hn, hs⟩, hi]
      exact hc.cmdIn

/-! ### The response of a command -/

/-- A step, from `s` with no response on the port, leaves one exactly where it ends the command in progress. -/
def RespondsAtCompletion (s t : State) : Prop := t.rsp.isSome = true ↔ s.cmd.isSome = true ∧ t.cmd = none

theorem respondsAtCompletion_of_kept {s t : State} (hs : s.rsp = none) (hrsp : t.rsp = s.rsp) (hcmd : t.cmd = s.cmd) :
    RespondsAtCompletion s t := by
  cases hc : s.cmd <;> simp [RespondsAtCompletion, hs, hrsp, hcmd, hc]

theorem State.respond_respondsAtCompletion {s s' : State} (hcmd : s.cmd.isSome = true) (status : Status) (ack : AckClass)
    (slot : Option Slot) : RespondsAtCompletion s (s'.respond status ack slot) := by
  simp [RespondsAtCompletion, hcmd]

/-- Fault entry ends the command in progress, and responds where there is one (60 R203). -/
theorem State.raiseFault_respondsAtCompletion {s s' : State} (hs : s.rsp = none) (hrsp : s'.rsp = s.rsp)
    (hcmd : s'.cmd = s.cmd) (c : FaultCode) : RespondsAtCompletion s (s'.raiseFault c) := by
  obtain ⟨hrsp', -⟩ := s'.raiseFault_rsp c
  cases hc : s.cmd <;> simp [RespondsAtCompletion, hrsp', hrsp, hs, hcmd, hc]

theorem State.overflowFault_respondsAtCompletion {s : State} (hs : s.rsp = none) : RespondsAtCompletion s s.overflowFault :=
  State.raiseFault_respondsAtCompletion (s' := s.log _) hs rfl rfl _

/-- A handshake step responds by fault entry, or at the end of a SEND, whose command is in progress. -/
theorem HandshakeCase.respondsAtCompletion {s t : State} (h : HandshakeCase s t) (hinv : HiddenMatchesState s)
    (hrsp : s.rsp = none) : RespondsAtCompletion s t := by
  cases h with
  | checksumMismatch | openFailed | resetWriteFailed | rebootFailed | reconnectExhausted =>
    exact State.raiseFault_respondsAtCompletion hrsp (by rfl) (by rfl) _
  | sendOverflow => exact State.overflowFault_respondsAtCompletion hrsp
  | sendFailed hs | secondRead hs =>
    have hcmd : s.cmd = some .send := by simpa [hs] using hinv.1
    exact State.respond_respondsAtCompletion (by simp [hcmd]) _ _ _
  | _ => exact respondsAtCompletion_of_kept hrsp rfl rfl

/-- An accepted word is answered at once, except a SEND, whose command stays in progress. -/
theorem CommandCase.rsp_isSome_iff {w : Word} {s t : State} (h : CommandCase w s t) (hrsp : s.rsp = none) :
    t.rsp.isSome = true ↔ t.cmd = none := by
  cases h with
  | serializeOverflow =>
    have hc := (s.beginCommand .serialize).overflowFault_respondsAtCompletion hrsp
    simpa [RespondsAtCompletion] using hc
  | send => simp [hrsp]
  | _ => simp

/-- Settles O10: each branch responds exactly where it ends the command that was in progress or that it accepted. -/
theorem responseExactlyWhenACommandCompletes : Obligations.ResponseExactlyWhenACommandCompletes := by
  intro s t hinv ht
  cases hr : s.rstAsserted with
  | true =>
    rw [step_of_rst hr ht]
    simp [applyReset, State.resetWith]
  | false =>
    rw [State.cmdReady_iff]
    cases step_of_low hr ht with
    | handshake _ hc =>
      have hiff : t.rsp.isSome = true ↔ s.cmd.isSome = true ∧ t.cmd = none := hc.respondsAtCompletion hinv rfl
      have hstate : ¬ (s.state = .connected ∨ s.state = .failed ∨ s.state = .closed) := hc.not_commandState
      simp [hiff, hstate]
    | idle hs hw =>
      obtain hempty | hbusy := hw
      · cases hc : s.cmd <;> simp [hempty, hc]
      · simp [hbusy]
    | command w rest _ hs hi hn hc =>
      simp [hc.rsp_isSome_iff rfl, hn, hs, hi]

/-! ### The bytes written -/

@[simp] theorem writesOf_nil : writesOf [] = [] := rfl
@[simp] theorem writesOf_openReq (port : String) (baud : Nat) (a : TxResult) (more : List TxEvent) :
    writesOf (.openReq port baud a :: more) = writesOf more := rfl
@[simp] theorem writesOf_writeReq (bytes : List Byte) (a : TxResult) (more : List TxEvent) :
    writesOf (.writeReq bytes a :: more) = bytes :: writesOf more := rfl
@[simp] theorem writesOf_readReq (ms : Nat) (a : ReadAnswer) (more : List TxEvent) :
    writesOf (.readReq ms a :: more) = writesOf more := rfl
@[simp] theorem writesOf_closeReq (more : List TxEvent) : writesOf (.closeReq :: more) = writesOf more := rfl

/-- Fault entry writes nothing. -/
theorem State.writesOf_raiseFault (s : State) (c : FaultCode) : writesOf (s.raiseFault c).txTrace = writesOf s.txTrace := by
  cases h : s.handleOpen <;> simp [h]

theorem State.writesOf_overflowFault (s : State) : writesOf s.overflowFault.txTrace = writesOf s.txTrace :=
  (s.log _).writesOf_raiseFault _

/-- A reset adds to the writes only the one that it leaves without an answer (log 23). -/
theorem writesOf_applyReset (r : Option TxRequest) (s : State) :
    writesOf (applyReset r s).txTrace = writesOf s.txTrace ++ writesOf [.rst r] := by
  rw [applyReset_txTrace, List.append_cons, writesOf_append, writesOf_append]
  cases s.handleOpen <;> simp

/-- What a step may write in the state it starts from: nothing, the reset command in `RESETTING`, the frame in `SENDING`
where it fits (20 R62). -/
def WritesAllowed (s t : State) : Prop :=
  writesOf t.txTrace = writesOf s.txTrace ∨
  (s.state = .resetting ∧ writesOf t.txTrace = writesOf s.txTrace ++ [resetCommand]) ∨
  (s.state = .sending ∧ 290 ≤ s.cfg.frameCapacity ∧ writesOf t.txTrace = writesOf s.txTrace ++ [frame s.buf])

/-- A handshake step writes in `RESETTING`, and in `SENDING` after the capacity check. -/
theorem HandshakeCase.writesAllowed {s t : State} (h : HandshakeCase s t) : WritesAllowed s t := by
  cases h with
  | resetWriteFailed hs => exact .inr (.inl ⟨hs, (State.writesOf_raiseFault _ _).trans (by simp)⟩)
  | resetWritten hs => exact .inr (.inl ⟨hs, by simp⟩)
  | sendFailed hs ho | sent hs ho => exact .inr (.inr ⟨hs, s.overflows_false_iff.mp ho, by simp⟩)
  | checksumMismatch | openFailed | rebootFailed | reconnectExhausted =>
    exact .inl ((State.writesOf_raiseFault _ _).trans (by simp))
  | sendOverflow => exact .inl s.writesOf_overflowFault
  | _ => exact .inl (by simp [firstAckStep, secondAckStep, State.logAck_eq])

/-- An accepted word writes nothing: a SEND writes its frame in a later step. -/
theorem CommandCase.writesOf_txTrace {w : Word} {s t : State} (h : CommandCase w s t) :
    writesOf t.txTrace = writesOf s.txTrace := by
  cases h with
  | serializeOverflow => exact State.writesOf_overflowFault _
  | _ => simp

theorem WorkCase.writesAllowed {s t : State} (h : WorkCase s t) : WritesAllowed s t := by
  cases h with
  | handshake _ hc => exact hc.writesAllowed
  | idle => exact .inl rfl
  | command _ _ _ _ _ _ hc => exact .inl hc.writesOf_txTrace

/-- A reset may cut the write of the state it comes in, and no other. -/
theorem State.applyReset_writesAllowed (s : State) : WritesAllowed s (applyReset s.cutRequest s.tick) := by
  have hw := writesOf_applyReset s.cutRequest s.tick
  obtain hcut | ⟨-, hcut⟩ | ⟨hs, hcut⟩ | ⟨hs, ho, hcut⟩ | ⟨-, hcut⟩ := s.cutRequest_cases <;> rw [hcut] at hw ⊢
  · exact .inl (hw.trans (List.append_nil _))
  · exact .inl (hw.trans (List.append_nil _))
  · exact .inr (.inl ⟨hs, hw⟩)
  · exact .inr (.inr ⟨hs, s.overflows_false_iff.mp ho, hw⟩)
  · exact .inl (hw.trans (List.append_nil _))

/-- Settles O49: by whether `rst` is asserted, the write that the reset cuts or the write of the step's branch. -/
theorem writesAreTheResetCommandAndFrames : Obligations.WritesAreTheResetCommandAndFrames := by
  intro s t ht
  cases hr : s.rstAsserted with
  | true =>
    rw [step_of_rst hr ht]
    exact s.applyReset_writesAllowed
  | false => exact (step_of_low hr ht).writesAllowed

end Sys2Proof.Machine

/-! PROOFS, family `30_encoding.md`: a command word and its five fields determine each other, and the decoder is said in fields
(which operands, which fields must be zero). From that the round trips and the opcode table; then what a step does with the word it
accepts in `CONNECTED`. -/

namespace Sys2Proof

/-! ### A word and its fields -/

section
variable (op x y chip : Nat) (v : Intensity)

@[simp] theorem opField_packCommand : opField (packCommand op x y chip v) = op % 16 := by
  rw [opField_eq, packCommand_toNat]; omega

@[simp] theorem xField_packCommand : xField (packCommand op x y chip v) = x % 16 := by
  rw [xField_eq, packCommand_toNat]; omega

@[simp] theorem yField_packCommand : yField (packCommand op x y chip v) = y % 32 := by
  rw [yField_eq, packCommand_toNat]; omega

@[simp] theorem chipField_packCommand : chipField (packCommand op x y chip v) = chip % 8 := by
  rw [chipField_eq, packCommand_toNat]; omega

@[simp] theorem intensityField_packCommand : intensityField (packCommand op x y chip v) = v := by
  apply BitVec.eq_of_toNat_eq
  rw [intensityField_toNat, packCommand_toNat]
  omega

end

/-- The five fields of 30 R71 fill the word. -/
theorem packCommand_fields (w : Word) :
    packCommand (opField w) (xField w) (yField w) (chipField w) (intensityField w) = w := by
  apply BitVec.eq_of_toNat_eq
  rw [packCommand_toNat, opField_eq, xField_eq, yField_eq, chipField_eq, intensityField_toNat]
  omega

theorem opField_lt (w : Word) : opField w < 16 := (w.extractLsb' 28 4).isLt
theorem xField_lt (w : Word) : xField w < 16 := (w.extractLsb' 24 4).isLt
theorem yField_lt (w : Word) : yField w < 32 := (w.extractLsb' 19 5).isLt
theorem chipField_lt (w : Word) : chipField w < 8 := (w.extractLsb' 16 3).isLt

theorem xField_eq_zero_iff (w : Word) : xField w = 0 ↔ w.extractLsb' 24 4 = 0#4 :=
  BitVec.toNat_inj (x := w.extractLsb' 24 4) (y := 0#4)
theorem yField_eq_zero_iff (w : Word) : yField w = 0 ↔ w.extractLsb' 19 5 = 0#5 :=
  BitVec.toNat_inj (x := w.extractLsb' 19 5) (y := 0#5)
theorem chipField_eq_zero_iff (w : Word) : chipField w = 0 ↔ w.extractLsb' 16 3 = 0#3 :=
  BitVec.toNat_inj (x := w.extractLsb' 16 3) (y := 0#3)

/-! ### The decoder by fields -/

/-- The fields that 30 R73 marks 0 under the opcode of `w` are 0; under a reserved opcode it marks none. -/
def unusedFieldsZero (w : Word) : Bool :=
  match opField w with
  | 1 => decide (chipField w = 0 ∧ intensityField w = 0#16)
  | 2 => decide (chipField w = 0)
  | 3 => decide (xField w = 0 ∧ yField w = 0 ∧ chipField w = 0)
  | 4 => decide (xField w = 0 ∧ yField w = 0)
  | 5 | 6 | 7 => decide (xField w = 0 ∧ yField w = 0 ∧ chipField w = 0 ∧ intensityField w = 0#16)
  | _ => true

/-- The reserved opcodes have no command (30 R74). -/
theorem commandOf_eq_none_iff (w : Word) : commandOf w = none ↔ opField w = 0 ∨ 8 ≤ opField w := by
  have hlt := opField_lt w
  unfold commandOf
  generalize opField w = op at *
  interval_cases op <;> simp

/-- A legal opcode has a command (30 R73). -/
theorem exists_commandOf {w : Word} (h : 0 < opField w ∧ opField w < 8) : ∃ i, commandOf w = some i :=
  Option.ne_none_iff_exists'.mp fun hn => by have := (commandOf_eq_none_iff w).mp hn; omega

/-- The opcodes that have a mask are those that have a command (30 R79). -/
theorem mbzMask_eq_none_iff (w : Word) : mbzMask (opField w) = none ↔ commandOf w = none := by
  have hlt := opField_lt w
  unfold commandOf
  generalize opField w = op at *
  interval_cases op <;> simp [mbzMask]

/-- A word with a mask decodes where the masked bits are 0 (30 R79). -/
theorem decodes_of_mbzMask {w mask : Word} (hm : mbzMask (opField w) = some mask) (hz : w &&& mask = 0#32) :
    ∃ i, decode w = .ok i := by
  cases hi : commandOf w with
  | none => simp [(mbzMask_eq_none_iff w).mpr hi] at hm
  | some i => exact ⟨i, by simp [decode, hm, hi, hz]⟩

/-- The decode of 30 R79 by fields: the command of the opcode, where the fields that it leaves unused are 0. -/
theorem decode_eq_fields (w : Word) :
    decode w = (commandOf w).elim (.error .reservedOpcode)
      fun i => if unusedFieldsZero w then .ok i else .error .mustBeZero := by
  have hI : intensityField w = 0#16 ↔ w.toNat % 2 ^ 16 = 0 := by rw [← BitVec.toNat_inj, intensityField_toNat]; rfl
  have hresolve : (chipField w = 0 ∧ intensityField w = 0#16) ↔ w.toNat % 2 ^ 19 = 0 := by
    rw [chipField_eq, hI]; omega
  have hsetPixel : chipField w = 0 ↔ w.toNat / 2 ^ 16 % 2 ^ 3 = 0 := by rw [chipField_eq]; rfl
  have hsetAll : (xField w = 0 ∧ yField w = 0 ∧ chipField w = 0) ↔ w.toNat / 2 ^ 16 % 2 ^ 12 = 0 := by
    rw [xField_eq, yField_eq, chipField_eq]; omega
  have hchipGroup : (xField w = 0 ∧ yField w = 0) ↔ w.toNat / 2 ^ 19 % 2 ^ 9 = 0 := by
    rw [xField_eq, yField_eq]; omega
  have hbare : (xField w = 0 ∧ yField w = 0 ∧ chipField w = 0 ∧ intensityField w = 0#16) ↔ w.toNat % 2 ^ 28 = 0 := by
    rw [xField_eq, yField_eq, chipField_eq, hI]; omega
  have hlt := opField_lt w
  rw [decode_eq]
  unfold commandOf unusedFieldsZero
  generalize opField w = op at *
  interval_cases op <;>
    simp only [Option.elim, decide_eq_true_eq, ← hresolve, ← hsetPixel, ← hsetAll, ← hchipGroup, ← hbare]

theorem decode_eq_ok_iff {w : Word} {i : Instr} :
    decode w = .ok i ↔ commandOf w = some i ∧ unusedFieldsZero w = true := by
  rw [decode_eq_fields]
  cases commandOf w <;> cases unusedFieldsZero w <;> simp

theorem decode_eq_reservedOpcode_iff {w : Word} :
    decode w = .error .reservedOpcode ↔ opField w = 0 ∨ 8 ≤ opField w := by
  rw [← commandOf_eq_none_iff, decode_eq_fields]
  cases commandOf w <;> cases unusedFieldsZero w <;> simp

/-- Under a legal opcode the only refusal is a nonzero field (30 R75). -/
theorem decode_eq_mustBeZero {w : Word} (hop : 0 < opField w ∧ opField w < 8) (hz : unusedFieldsZero w = false) :
    decode w = .error .mustBeZero := by
  obtain ⟨i, hi⟩ := exists_commandOf hop
  simp [decode_eq_fields, hi, hz]

/-! ### The round trips -/

/-- The opcode and the operand fields of an encoding name the command that was encoded. -/
theorem commandOf_encode {i : Instr} (h : i.wf = true) : commandOf (encode i) = some i := by
  cases i with
  | resolve x y | setPixel x y =>
    obtain ⟨hx, hy⟩ : x < 16 ∧ y < 32 := by simpa [Instr.wf] using h
    simp [commandOf, encode, Nat.mod_eq_of_lt hx, Nat.mod_eq_of_lt hy]
  | setChipGroup chipIndex =>
    have hc : chipIndex < 8 := by simpa [Instr.wf] using h
    simp [commandOf, encode, Nat.mod_eq_of_lt hc]
  | setAll | serialize | send | close => simp [commandOf, encode]

/-- "sets every other field to 0" (30 R81). -/
theorem unusedFieldsZero_encode (i : Instr) : unusedFieldsZero (encode i) = true := by
  cases i <;> simp [unusedFieldsZero, encode]

/-- Every operand field holds a value that fits it. -/
theorem wf_of_commandOf {w : Word} {i : Instr} (h : commandOf w = some i) : i.wf = true := by
  have hx := xField_lt w
  have hy := yField_lt w
  have hc := chipField_lt w
  unfold commandOf at h
  split at h <;> cases h <;> simp [Instr.wf, hx, hy, hc]

/-- Where the unused fields are 0, encoding puts every field back in its place. -/
theorem encode_of_commandOf {w : Word} {i : Instr} (h : commandOf w = some i) (hz : unusedFieldsZero w = true) :
    encode i = w := by
  rw [← packCommand_fields w]
  unfold commandOf at h
  unfold unusedFieldsZero at hz
  split at h <;> cases h
  all_goals
    next hop =>
      simp [hop] at hz
      simp [encode, hop, hz]

/-- Settles O1: an encoding holds the opcode, the operands, and 0 everywhere else. -/
theorem decodeOfEncodeIsTheCommand : Obligations.DecodeOfEncodeIsTheCommand := fun i hwf =>
  decode_eq_ok_iff.mpr ⟨commandOf_encode hwf, unusedFieldsZero_encode i⟩

/-- Settles O2: the five fields fill the word, and those without an operand are 0. -/
theorem encodeOfDecodeIsTheWord : Obligations.EncodeOfDecodeIsTheWord := by
  intro w i h
  obtain ⟨hi, hz⟩ := decode_eq_ok_iff.mp h
  exact ⟨wf_of_commandOf hi, encode_of_commandOf hi hz⟩

/-! ### The opcode table -/

/-- Every command's word matches the command's row (the family of Laws/PerInstr.lean). -/
theorem encode_matches_opcodeRowOf (i : Instr) : Laws.OpcodeRow.Statement i := by
  cases i with
  | resolve x y => exact Laws.OpcodeRow.resolve x y
  | setPixel x y v => exact Laws.OpcodeRow.setPixel x y v
  | setAll v => exact Laws.OpcodeRow.setAll v
  | setChipGroup c v => exact Laws.OpcodeRow.setChipGroup c v
  | serialize => exact Laws.OpcodeRow.serialize
  | send => exact Laws.OpcodeRow.send
  | close => exact Laws.OpcodeRow.close

/-- A row of the table fixes the four bits of a legal opcode, and the must-be-zero bits of that opcode at 0. -/
theorem opcodeTable_row {row : OpcodeRow} (h : row ∈ opcodeTable) :
    row.mask.extractLsb' 28 4 = 15#4 ∧ ∃ mbz, mbzMask (opField row.value) = some mbz ∧
      row.mask &&& mbz = mbz ∧ row.value &&& mbz = 0#32 := by
  unfold opcodeTable at h
  fin_cases h <;> exact ⟨by decide, _, rfl, by decide⟩

/-- A word that matches a row has the row's opcode. -/
theorem opField_of_match {w mask value : Word} (hop : mask.extractLsb' 28 4 = 15#4) (h : w &&& mask = value) :
    opField w = opField value := by
  rw [← h, opField, opField, BitVec.extractLsb'_and, hop, show (15#4) = BitVec.allOnes 4 from rfl, BitVec.and_allOnes]

/-- A word that matches a row of the opcode table decodes. -/
theorem decodes_of_match {w : Word} {row : OpcodeRow} (hrow : row ∈ opcodeTable) (h : w &&& row.mask = row.value) :
    ∃ i, decode w = .ok i := by
  obtain ⟨hop, mbz, hmbz, hcover, hzero⟩ := opcodeTable_row hrow
  rw [← opField_of_match hop h] at hmbz
  exact decodes_of_mbzMask hmbz (by rw [← hcover, ← BitVec.and_assoc, h, hzero])

/-- The reserved opcodes of 30 R74 as bits of the word. -/
theorem opField_reserved_iff (w : Word) :
    opField w = 0 ∨ 8 ≤ opField w ↔ w.extractLsb' 28 4 = 0#4 ∨ 8#4 ≤ w.extractLsb' 28 4 := by
  rw [← BitVec.toNat_inj, BitVec.le_def]; rfl

/-- Settles O3: a command's word matches the command's row, and a row's word decodes. -/
theorem decodeAcceptsExactlyTheTable : Obligations.DecodeAcceptsExactlyTheTable := by
  refine fun w => ⟨⟨?_, fun ⟨row, hrow, h⟩ => decodes_of_match hrow h⟩,
    decode_eq_reservedOpcode_iff.trans (opField_reserved_iff w)⟩
  rintro ⟨i, hi⟩
  obtain ⟨-, rfl⟩ := encodeOfDecodeIsTheWord w i hi
  exact ⟨opcodeRowOf i, encode_matches_opcodeRowOf i⟩

/-- Settles O4: twelve fixed words, each evaluated both ways. -/
theorem encodingExamplesDecodeAsWritten : Obligations.EncodingExamplesDecodeAsWritten := by
  unfold Obligations.EncodingExamplesDecodeAsWritten
  decide

end Sys2Proof

namespace Sys2Proof.Machine

/-! ### The word that a step accepts -/

/-- In `CONNECTED` a step takes the presented word off the port and runs it (30 R70). -/
theorem step_of_presented {s : State} {w : Word} {rest : List Word} (hr : s.rstAsserted = false)
    (hs : s.state = .connected) (hcmd : s.cmd = none) (hi : s.cmdIn = w :: rest) :
    step s = runCommandWord w { s.tick with cmdIn := rest } := by
  have hready : s.tick.cmdReady = true := s.tick.cmdReady_iff.mpr ⟨hcmd, .inl hs⟩
  simp [step, blockStep, hr, handshakeStep, commandStep, hs, hi, hready]

theorem runCommandWord_of_ok {s : State} {w : Word} {i : Instr} (hs : s.state = .connected) (hd : decode w = .ok i) :
    runCommandWord w s = exec i (s.beginCommand i) := by
  simp [runCommandWord, hs, hd]

theorem runCommandWord_of_error {s : State} {w : Word} {e : DecodeError} (hs : s.state = .connected)
    (hd : decode w = .error e) : runCommandWord w s = .next (s.respond .illegalCommand .none none) := by
  simp [runCommandWord, hs, hd]

/-- A response without a command changes the response port and `LAST_STATUS` only. -/
theorem State.respond_of_hiddenEmpty {s : State} (h : HiddenEmpty s) (status : Status) (ack : AckClass)
    (slot : Option Slot) :
    s.respond status ack slot = { s with rsp := some (packResponse status ack slot), lastStatus := status } := by
  obtain ⟨hcmd, hsnap, hack⟩ := h
  simp [State.respond, hcmd, hsnap, hack]

/-- A word that does not decode is answered `ILLEGAL_COMMAND` in the step that accepts it (30 R74, R75). -/
theorem step_of_illegal {s : State} {w : Word} {rest : List Word} {e : DecodeError} (hinv : HiddenMatchesState s)
    (hr : s.rstAsserted = false) (hs : s.state = .connected) (hi : s.cmdIn = w :: rest) (hd : decode w = .error e) :
    ∃ t, step s = .next t ∧
      t = { s with rstIn := t.rstIn, cmdIn := t.cmdIn, rsp := some 0x40000000#32, lastStatus := .illegalCommand } := by
  have hempty : HiddenEmpty s := hinv.empty (by simp [hs])
  refine ⟨_, (step_of_presented hr hs hempty.1 hi).trans (runCommandWord_of_error hs hd), ?_⟩
  rw [State.respond_of_hiddenEmpty (s := { s.tick with cmdIn := rest }) hempty]
  rfl

/-- Settles O5: the accepted word is run, and it decodes. -/
theorem stepRunsTheDecodedCommand : Obligations.StepRunsTheDecodedCommand :=
  fun _ _ _ _ hr hs hcmd hi hd => (step_of_presented hr hs hcmd hi).trans (runCommandWord_of_ok hs hd)

/-- Settles O6: a reserved opcode does not decode. -/
theorem reservedOpcodeAnswersIllegalCommand : Obligations.ReservedOpcodeAnswersIllegalCommand :=
  fun _ w _ hinv hr hs hi hop =>
    step_of_illegal hinv hr hs hi (decode_eq_reservedOpcode_iff.mpr ((opField_reserved_iff w).mpr hop))

/-- Settles O7: a nonzero unused field does not decode, under each legal opcode. -/
theorem nonzeroUnusedFieldAnswersIllegalCommand : Obligations.NonzeroUnusedFieldAnswersIllegalCommand := by
  intro s w rest hinv hr hs hi hfield
  have hlegal : 0 < opField w ∧ opField w < 8 := by
    unfold opField
    omega
  have hz : unusedFieldsZero w = false := by
    obtain ⟨hop, h⟩ | ⟨hop, h⟩ | ⟨hop, h⟩ | ⟨hop, h⟩ | ⟨hop | hop | hop, h⟩ := hfield <;>
      simpa [unusedFieldsZero, opField, hop, xField_eq_zero_iff, yField_eq_zero_iff, chipField_eq_zero_iff,
        intensityField, imp_iff_not_or] using h
  exact step_of_illegal hinv hr hs hi (decode_eq_mustBeZero hlegal hz)

end Sys2Proof.Machine

/-! PROOFS, family `40_address_table.md`: the sums of the validator and what they say about tables, the VALIDATING step, the
invariant of the validation report, admission, RESOLVE. -/

namespace Sys2Proof

/-- A slot as a triple of the three table entries. -/
def Slot.triple (k : Slot) : Fin 3 × Fin 16 × Fin 3 := (k.chip, k.channel, k.color)

theorem Slot.triple_injective : Function.Injective Slot.triple := by
  rintro ⟨chip, channel, color⟩ ⟨chip', channel', color'⟩ h
  simpa [Slot.triple] using h

end Sys2Proof

namespace Sys2Proof.Machine

/-! ### The loop of the validator and the sums -/

/-- The loop starts from zeros, so its result is the sum of 40 R102. -/
theorem validatorSums_get (t : AddressTable) (c : Fin 16) : (validatorSums t)[c] = channelSum t c := by
  rw [validatorSums, foldl_addCell_get, channelSum]
  simp

/-- Sixteen sums pass together or fail together, and the validation says which (40 R104). -/
theorem validate_eq (t : AddressTable) :
    validate t = if tablePasses t then .ok (validatorSums t) else .checksumMismatch 18 (validatorSums t) := by
  simp only [validate, validatorSums_get]
  rfl

theorem validate_of_passes {t : AddressTable} (h : tablePasses t) : validate t = .ok (validatorSums t) :=
  (validate_eq t).trans (if_pos h)

theorem validate_of_fails {t : AddressTable} (h : ¬ tablePasses t) : validate t = .checksumMismatch 18 (validatorSums t) :=
  (validate_eq t).trans (if_neg h)

/-- Settles O19: the loop adds up each channel, and the comparison is with `K_EXPECTED` = 18. -/
theorem validatorComputesTheChannelSums : Obligations.ValidatorComputesTheChannelSums :=
  fun t => ⟨validatorSums_get t, validate_of_passes, validate_of_fails⟩

/-- 144 cells of weight at most 4 (40 R102). -/
theorem channelSum_le (t : AddressTable) (c : Fin 16) : channelSum t c ≤ 576 := by
  have hweight : channelSum t c ≤ _ • 4 := List.sum_le_card_nsmul _ _ fun w hw => by
    obtain ⟨p, -, rfl⟩ := List.mem_map.mp hw
    exact cellWeight_le t p
  have hcount := gridCells.length_filter_le fun p => decide ((t.lookup p.1 p.2).channel = c)
  rw [List.length_map, smul_eq_mul] at hweight
  rw [gridCells_length] at hcount
  omega

/-- With every cell on one slot, all 144 weights go to the channel of that slot. -/
theorem channelSum_const (k : Slot) :
    channelSum (AddressTable.ofNumbered fun _ => k) k.channel = 144 * (k.color.val + k.chip.val) := by
  have hweight : cellWeight (AddressTable.ofNumbered fun _ => k) = fun _ => k.color.val + k.chip.val := by
    funext p
    rw [cellWeight, AddressTable.lookup_ofNumbered]
  have hall : (gridCells.filter fun p => decide (((AddressTable.ofNumbered fun _ => k).lookup p.1 p.2).channel = k.channel)) =
      gridCells := List.filter_eq_self.mpr fun p _ => by rw [AddressTable.lookup_ofNumbered, decide_eq_true rfl]
  rw [channelSum, hall, hweight, List.map_const', List.sum_replicate, gridCells_length, smul_eq_mul]

theorem channelSum_of_unused {t : AddressTable} {c : Fin 16} (h : ∀ x y, (t.lookup x y).channel ≠ c) :
    channelSum t c = 0 := by
  simp [channelSum, h]

/-- A 16-bit register holds a sum as it is, since `576 < 2^16` (40 R102). -/
theorem sumRegisters_toNat (t : AddressTable) (c : Fin 16) :
    ((sumRegisters (validatorSums t))[c]).toNat = channelSum t c := by
  have hget : (sumRegisters (validatorSums t))[c] = BitVec.ofNat 16 (validatorSums t)[c] := by simp [sumRegisters]
  have hle := channelSum_le t c
  rw [hget, validatorSums_get, BitVec.toNat_ofNat]
  omega

/-- Settles O20: the bound is reached with every cell on chip 2 and colour lane 2 of one channel. -/
theorem channelSumsFitTheirRegisters : Obligations.ChannelSumsFitTheirRegisters :=
  ⟨channelSum_le, ⟨_, 0, channelSum_const ⟨2, 0, 2⟩⟩, sumRegisters_toNat, fun _ _ h => channelSum_of_unused h⟩

/-! ### What the sums do and do not tell apart -/

/-- What a slot, as a triple, adds to the sum of channel `c` (40 R102). -/
def weightOn (c : Fin 16) (q : Fin 3 × Fin 16 × Fin 3) : Nat := if q.2.1 = c then q.2.2.val + q.1.val else 0

/-- The loop order does not matter: a sum over the list of cells is a sum over the grid. -/
theorem sum_gridCells (f : Fin 9 × Fin 16 → Nat) : (gridCells.map f).sum = ∑ p, f p := by
  rw [Fintype.sum_prod_type_right]
  simp [gridCells, Function.comp_def, Fin.sum_univ_def, List.flatMap, List.sum_flatten]

theorem channelSum_eq_sum (t : AddressTable) (c : Fin 16) :
    channelSum t c = ∑ p : Fin 9 × Fin 16, weightOn c (t.lookup p.1 p.2).triple := by
  rw [← sum_gridCells]
  have hsplit := List.sum_map_ite (fun p => (t.lookup p.1 p.2).channel = c) (cellWeight t) (fun _ => 0) gridCells
  rw [List.map_const', List.sum_replicate, smul_zero, add_zero] at hsplit
  exact hsplit.symm

/-- Each channel's nine slots, once each, weigh 18 together: the derivation of `K_EXPECTED` (40 R103). -/
theorem sum_weightOn (c : Fin 16) : ∑ q, weightOn c q = 18 := by
  have hchip : ∀ chip, ∑ q : Fin 16 × Fin 3, weightOn c (chip, q) = ∑ color : Fin 3, (color.val + chip.val) := fun chip => by
    rw [Fintype.sum_prod_type_right]
    simp only [weightOn, Finset.sum_ite_eq', Finset.mem_univ, if_true]
  rw [Fintype.sum_prod_type]
  simp only [hchip]
  rfl

/-- A table that is one to one takes each slot once, since there are as many slots as cells (40 R106). -/
theorem channelSum_of_injective {t : AddressTable}
    (h : ∀ (x x' : Fin 9) (y y' : Fin 16), (t.lookup x y).index = (t.lookup x' y').index → x = x' ∧ y = y')
    (c : Fin 16) : channelSum t c = 18 := by
  have hinj : Function.Injective fun p : Fin 9 × Fin 16 => (t.lookup p.1 p.2).triple := fun p p' e =>
    Prod.ext_iff.mpr (h p.1 p'.1 p.2 p'.2 (congrArg Slot.index (Slot.triple_injective e)))
  have hbij := (Fintype.bijective_iff_injective_and_card _).mpr ⟨hinj, by simp⟩
  rw [channelSum_eq_sum, hbij.sum_comp (weightOn c), sum_weightOn]

/-- Settles O21: all sums are 18, so they pass and are the ones reported. -/
theorem bijectiveTablesPassValidation : Obligations.BijectiveTablesPassValidation := by
  intro t h
  have hsum := channelSum_of_injective h
  have hvec : validatorSums t = Vector.replicate 16 18 := Vector.ext fun i hi => by
    rw [Vector.getElem_replicate]
    exact (validatorSums_get t ⟨i, hi⟩).trans (hsum ⟨i, hi⟩)
  rw [validate_of_passes hsum, hvec]

/-- The validation reads the table only through its channel sums. -/
theorem validate_eq_of_sums {t t' : AddressTable} (h : ∀ c, channelSum t c = channelSum t' c) : validate t = validate t' := by
  have hvec : validatorSums t = validatorSums t' := Vector.ext fun i hi => by
    have hget := h ⟨i, hi⟩
    rw [← validatorSums_get, ← validatorSums_get] at hget
    exact hget
  simp only [validate, hvec]

/-- Changing a cell to a slot of the same weight on the same channel changes no sum. -/
theorem channelSum_withCell {t : AddressTable} {x : Fin 9} {y : Fin 16} {k : Slot}
    (h : ∀ c, weightOn c k.triple = weightOn c (t.lookup x y).triple) (c : Fin 16) :
    channelSum (t.withCell x y k) c = channelSum t c := by
  simp only [channelSum_eq_sum]
  refine Finset.sum_congr rfl fun p _ => ?_
  rw [AddressTable.lookup_withCell]
  split
  next hp => rw [h, hp.1, hp.2]
  next => rfl

/-- Settles O22: `1 + 0` is `0 + 1`, on the same channel. -/
theorem swappedCellIsNotDetected : Obligations.SwappedCellIsNotDetected := by
  intro t x y c hcell
  refine ⟨by simp [AddressTable.lookup_withCell], validate_eq_of_sums (channelSum_withCell fun c' => ?_)⟩
  rw [hcell]
  rfl

/-! ### The VALIDATING step -/

theorem step_of_validating {s : State} (hr : s.rstAsserted = false) (hs : s.state = .validating) :
    step s = .next (validatingStep s.tick) := by
  simp [step, blockStep, hr, handshakeStep, hs]

theorem validatedState_eq (o : InitOrder) :
    validatedState o = if o = .validateFirst then .opening else .connected := by cases o <;> rfl

/-- Fault entry with no command in progress makes no response (60 R203). -/
theorem State.raiseFault_of_no_command {s : State} (hcmd : s.cmd = none) (c : FaultCode) :
    s.raiseFault c = { s with
      fault := s.fault.orFirst c
      txTrace := bif s.handleOpen then s.txTrace ++ [.closeReq] else s.txTrace
      handleOpen := false, state := .failed } := by
  have hcmd' : ((s.keepFirstFault c).closeIfOpen.goto .failed).cmd = none := by simp [State.closeIfOpen_eq, hcmd]
  rw [State.raiseFault, State.respondFaulted_of_none hcmd', State.closeIfOpen_eq]
  rfl

/-- Settles O24: by whether the table passes; a failing one faults with no fault held, no command in progress, and the handle
open exactly under `OpenFirst`. -/
theorem validatingStepReportsAndDecides : Obligations.ValidatingStepReportsAndDecides := by
  intro s hhandle hfault hhidden hr hs
  refine ⟨_, step_of_validating hr hs, ?_⟩
  by_cases hp : tablePasses s.cfg.table
  · rw [validatingStep_of_ok (s := s.tick) (validate_of_passes hp), ← validatedState_eq]
    exact ⟨sumRegisters_toNat s.cfg.table, fun _ => rfl, fun hf => absurd hp hf⟩
  · have hcmd : s.cmd = none := by simpa [hs] using hhidden.1
    have hnofault : s.fault = .none := by simpa [FaultMatchesState, hs] using hfault
    have hopen : s.handleOpen = decide (s.cfg.initOrder = .openFirst) := by
      rw [hhandle, hs]
      rfl
    rw [validatingStep_of_mismatch (s := s.tick) (validate_of_fails hp), State.raiseFault_of_no_command (by exact hcmd)]
    refine ⟨sumRegisters_toNat s.cfg.table, fun h => absurd h hp, fun _ => ?_⟩
    simp [hnofault, hopen, Bool.cond_decide]

/-! ### The invariant of the validation report -/

/-- What `CHK_STATUS` is in each state of a run, under an order of construction; nothing is said of `FAILED` (40 R105, 43 R168). -/
def HState.wantedReport (o : InitOrder) : HState → Option ChkStatus
  | .disconnected | .validating => some .notRun
  | .opening | .resetting | .reconnecting => some (if o = .validateFirst then .passed else .notRun)
  | .connected | .sending | .awaitingAck | .closed => some .passed
  | .failed => none

theorem validatedInOrder_iff (s : State) :
    ValidatedInOrder s ↔ ∀ c ∈ s.state.wantedReport s.cfg.initOrder, s.chkStatus = c := by
  cases h : s.state <;> simp [ValidatedInOrder, HState.wantedReport, h]

/-- `LINKUP` comes before the validation or after it, as OPENING does, so both want the same report. -/
@[simp] theorem wantedReport_linkUpState (o : InitOrder) :
    (linkUpState o).wantedReport o = HState.opening.wantedReport o := by cases o <;> rfl

@[simp] theorem wantedReport_firstState (o : InitOrder) : (firstState o).wantedReport o = some .notRun := by cases o <;> rfl
@[simp] theorem wantedReport_validatedState (o : InitOrder) : (validatedState o).wantedReport o = some .passed := by
  cases o <;> rfl

/-- The next state wants the report of the state before, or is `FAILED`, which wants none. -/
def WantsNoOtherReport (s t : State) : Prop :=
  t.state = .failed ∨
    s.state ≠ .failed ∧ t.state.wantedReport s.cfg.initOrder = s.state.wantedReport s.cfg.initOrder

theorem wantsNoOtherReport_of_same_state {s t : State} (h : t.state = s.state) : WantsNoOtherReport s t := by
  by_cases hs : s.state = .failed
  · exact .inl (h.trans hs)
  · exact .inr ⟨hs, by rw [h]⟩

/-- No handshake step but that of VALIDATING goes where another report is wanted. -/
theorem HandshakeCase.wantsNoOtherReport {s t : State} (h : HandshakeCase s t) (hs : s.state ≠ .validating) :
    WantsNoOtherReport s t := by
  cases h with
  | validated hv | checksumMismatch hv => exact absurd hv hs
  | openFailed | resetWriteFailed | rebootFailed | reconnectExhausted | sendOverflow =>
    exact .inl (State.raiseFault_state _ _)
  | start hs => exact .inr ⟨by simp [hs], by rw [hs]; exact wantedReport_firstState _⟩
  | opened hs | reconnected hs => exact .inr ⟨by simp [hs], by rw [hs]; exact wantedReport_linkUpState _⟩
  | openedForReset hs | resetWritten hs | stillReconnecting hs | sendFailed hs | sent hs | secondRead hs =>
    exact .inr ⟨by simp [hs], by rw [hs]; rfl⟩
  | firstRead => exact wantsNoOtherReport_of_same_state rfl

/-- A command is run in `CONNECTED` and leaves the block there, in `SENDING` or in `CLOSED`, or faults. -/
theorem CommandCase.wantsNoOtherReport {w : Word} {s t : State} (h : CommandCase w s t)
    (hs : s.state = .connected ∨ s.state = .failed ∨ s.state = .closed) : WantsNoOtherReport s t := by
  cases h with
  | serializeOverflow => exact .inl (State.raiseFault_state _ _)
  | send hne | close hne =>
    have hconn : s.state = .connected := by simpa [hne] using hs
    exact .inr ⟨hne.1, by rw [hconn]; rfl⟩
  | _ => exact wantsNoOtherReport_of_same_state rfl

/-- Where the report is left alone, the invariants can break only by a state that wants another report. -/
theorem validation_of_report_kept {s t : State} (hcfg : t.cfg = s.cfg) (hstatus : t.chkStatus = s.chkStatus)
    (hsums : t.chkSum = s.chkSum) (hwant : WantsNoOtherReport s t) (hreport : ReportMatchesTable s)
    (horder : ValidatedInOrder s) : ReportMatchesTable t ∧ ValidatedInOrder t := by
  obtain ⟨hzero, htrue, hpassed, hfailed⟩ := hreport
  rw [validatedInOrder_iff] at horder ⊢
  simp only [ReportMatchesTable, hcfg, hstatus, hsums]
  obtain ht | ⟨hs, ht⟩ := hwant
  · exact ⟨⟨hzero, htrue, hpassed, fun h => ⟨(hfailed h).1, ht⟩⟩, by simp [ht, HState.wantedReport]⟩
  · exact ⟨⟨hzero, htrue, hpassed, fun h => absurd (hfailed h).2 hs⟩, ht ▸ horder⟩

/-- The VALIDATING step makes the report anew, whatever it was: it writes the sums of the table, and goes where a passed report
is wanted, or to `FAILED`. -/
theorem validatingStep_validation (s : State) :
    ReportMatchesTable (validatingStep s) ∧ ValidatedInOrder (validatingStep s) := by
  rw [validatedInOrder_iff]
  by_cases hp : tablePasses s.cfg.table
  · rw [validatingStep_of_ok (validate_of_passes hp)]
    exact ⟨⟨nofun, fun _ => sumRegisters_toNat s.cfg.table, fun _ => hp, nofun⟩, by simp⟩
  · rw [validatingStep_of_mismatch (validate_of_fails hp)]
    simpa [ReportMatchesTable, State.raiseFault_frame, HState.wantedReport, hp] using sumRegisters_toNat s.cfg.table

/-- After a reset there is no report, and none is wanted (70 R231). -/
theorem resetWith_validation (c : Config) :
    ReportMatchesTable (State.resetWith c) ∧ ValidatedInOrder (State.resetWith c) := by
  rw [validatedInOrder_iff]
  simp [ReportMatchesTable, State.resetWith, HState.wantedReport]

/-- Settles O46: a reset drops the report and the VALIDATING step makes it; every other step keeps it and goes where the same
report is wanted. -/
theorem stepKeepsValidationInvariant : Obligations.StepKeepsValidationInvariant := by
  intro s t hreport horder ht
  cases hr : s.rstAsserted with
  | true =>
    rw [step_of_rst hr ht]
    exact resetWith_validation s.cfg
  | false =>
    cases step_of_low hr ht with
    | handshake _ hc =>
      by_cases hs : s.state = .validating
      · obtain rfl := Host.Outcome.next.inj ((step_of_validating hr hs).symm.trans ht)
        exact validatingStep_validation s.tick
      · obtain ⟨hstatus, hsums⟩ := hc.report_frame hs
        exact validation_of_report_kept hc.cfg_buf.1 hstatus hsums (hc.wantsNoOtherReport hs) hreport horder
    | idle => exact ⟨hreport, horder⟩
    | command _ _ _ hs _ _ hc =>
      obtain ⟨hcfg, -, -, -, -, hstatus, hsums⟩ := hc.frame
      exact validation_of_report_kept (s := s) hcfg hstatus hsums (hc.wantsNoOtherReport hs) hreport horder

/-! ### Admission -/

/-- A bound is refused exactly where it is below 2 (43 R167). -/
theorem admitBound_ok_iff (b : Option Nat) : (∃ bound, admitBound b = .ok bound) ↔ ∀ n, b = some n → 2 ≤ n := by
  cases b with
  | none => simp [admitBound]
  | some n => by_cases h : 2 ≤ n <;> simp [admitBound, h]

/-- What admission makes of a configuration: the checked table of a well-formed raw one, with a checked bound (40 R101). -/
theorem checked_ok_iff (r : RawConfig) (c : Config) :
    r.checked = .ok c ↔ r.tableWf = true ∧ ∃ bound, admitBound r.maxReconnect = .ok bound ∧
      c = { table := r.table, port := r.port, baud := r.baud, resetOnStart := r.resetOnStart, maxReconnect := bound,
            frameCapacity := r.frameCapacity, initOrder := r.initOrder } := by
  cases hwf : r.tableWf <;> cases hb : admitBound r.maxReconnect <;> simp [RawConfig.checked, hwf, hb, eq_comm]

/-- The checked table of a well-formed raw one has the raw entries. -/
theorem table_lookup_of_wf {r : RawConfig} (h : r.tableWf = true) (x : Fin 9) (y : Fin 16) :
    (r.table.lookup x y).chip.val = r.chipTbl x y ∧ (r.table.lookup x y).channel.val = r.channelTbl x y ∧
    (r.table.lookup x y).color.val = r.colorTbl x y := by
  obtain ⟨hchip, hchannel, hcolor⟩ := r.tableWf_iff.mp h x y x.isLt y.isLt
  rw [r.table_lookup]
  exact ⟨Nat.mod_eq_of_lt (by omega), Nat.mod_eq_of_lt (by omega), Nat.mod_eq_of_lt (by omega)⟩

/-- Settles O23: admission is the check of the table and the check of the bound. -/
theorem admissionIsExactlyWellFormedness : Obligations.AdmissionIsExactlyWellFormedness := by
  intro r
  rw [← r.tableWf_iff, ← admitBound_ok_iff]
  simp only [checked_ok_iff]
  constructor
  · exact ⟨fun ⟨_, hwf, bound, hb, _⟩ => ⟨hwf, bound, hb⟩, fun ⟨hwf, bound, hb⟩ => ⟨_, hwf, bound, hb, rfl⟩⟩
  · rintro c ⟨hwf, bound, -, rfl⟩
    exact table_lookup_of_wf hwf

/-! ### RESOLVE -/

/-- The slot fields of a response as a number (30 R76). -/
theorem packSlot_toNat (k : Slot) :
    (packSlot (some k)).toNat =
      k.index.val * 2 ^ 16 + k.chip.val * 2 ^ 14 + k.channel.val * 2 ^ 10 + k.color.val * 2 ^ 8 := by
  have hindex := k.index.isLt
  simp only [packSlot, toNat_append_add, BitVec.toNat_ofNat]
  omega

/-- A response that reports a slot reads back field by field (30 R76). -/
theorem responseIs_packResponse_slot (status : Status) (ack : AckClass) (k : Slot) :
    ResponseIs (packResponse status ack (some k)) status.code.toNat ack.code.toNat k.index.val k.chip.val k.channel.val
      k.color.val := by
  have hword := packResponse_toNat status ack (some k)
  rw [packSlot_toNat] at hword
  have hindex := k.index.isLt
  have hzero : ((packResponse status ack (some k)).extractLsb' 0 8).toNat = 0 := by
    rw [extract_toNat, hword]
    omega
  refine ⟨by rw [packResponse_status], by rw [packResponse_ack], ?_, ?_, ?_, ?_, BitVec.eq_of_toNat_eq hzero⟩ <;>
    rw [extract_toNat, hword] <;> omega

/-- Settles O12: a coordinate in range resolves to the slot of its cell, and one out of range to none. -/
theorem resolveAnswersTheSlotOrOutOfRange : Obligations.ResolveAnswersTheSlotOrOutOfRange := by
  intro s x y
  refine ⟨fun hx hy => ⟨_, ?_, responseIs_packResponse_slot .ok .none _⟩, fun hout => ?_⟩
  · simp only [exec, execResolve, s.cfg.table.resolve_inside hx hy]
    rfl
  · simp only [exec, execResolve, s.cfg.table.resolve_outside hout]
    rfl

end Sys2Proof.Machine

/-! PROOFS, family `41_pixel_buffer.md`: what each buffer command answers, the entries it writes, and the bytes of the frame that one
write of an entry changes. -/

namespace Sys2Proof.Machine

/-! ### The answers of the buffer commands -/

/-- SET_PIXEL in range writes the slot of its cell and reports it (41 R121). -/
theorem exec_setPixel_inside (s : State) {x y : Nat} (v : Intensity) (hx : x < 9) (hy : y < 16) :
    exec (.setPixel x y v) s =
      .next ((s.writeSlot (s.cfg.table.lookup ⟨x, hx⟩ ⟨y, hy⟩).index v).respond .ok .none
        (some (s.cfg.table.lookup ⟨x, hx⟩ ⟨y, hy⟩))) := by
  simp only [exec, execSetPixel, s.cfg.table.resolve_inside hx hy]

/-- SET_PIXEL out of range only responds (41 R121). -/
theorem exec_setPixel_outside (s : State) {x y : Nat} (v : Intensity) (hout : 9 ≤ x ∨ 16 ≤ y) :
    exec (.setPixel x y v) s = .next (s.respond .outOfRange .none none) := by
  simp only [exec, execSetPixel, s.cfg.table.resolve_outside hout]

/-- SET_ALL fills the whole buffer (41 R122). -/
theorem exec_setAll (s : State) (v : Intensity) :
    exec (.setAll v) s = .next ((s.fillSlots 0 144 v).respond .ok .none none) := rfl

/-- SET_CHIP_GROUP of a chip there is fills the 48 entries of that chip (41 R123). -/
theorem exec_setChipGroup_of_lt (s : State) {k : Nat} (v : Intensity) (hk : k < 3) :
    exec (.setChipGroup k v) s = .next ((s.fillSlots (48 * k) 48 v).respond .ok .none none) :=
  if_pos hk

/-- SET_CHIP_GROUP of a chip there is not only responds (41 R123). -/
theorem exec_setChipGroup_of_le (s : State) {k : Nat} (v : Intensity) (hk : 3 ≤ k) :
    exec (.setChipGroup k v) s = .next (s.respond .invalidChip .none none) :=
  if_neg (by omega)

/-! ### The entries that a buffer command writes -/

/-- One write changes the entry of its slot only (41 R124). -/
theorem State.writeSlot_getElem (s : State) (i j : Fin 144) (v : Intensity) :
    (s.writeSlot i v).buf[j] = if j.val = i.val then v else s.buf[j] := by
  simp [Vector.getElem_set, eq_comm]

/-- A bulk write changes the entries of its range only (41 R124). -/
theorem State.fillSlots_getElem (s : State) (lo n : Nat) (v : Intensity) (j : Fin 144) :
    (s.fillSlots lo n v).buf[j] = if lo ≤ j.val ∧ j.val < lo + n then v else s.buf[j] := by
  simp

/-- Settles O13: in range one entry is written and its slot reported, out of range nothing is written. -/
theorem setPixelWritesOneSlot : Obligations.SetPixelWritesOneSlot := by
  intro s x y v
  refine ⟨fun hx hy => ⟨_, _, exec_setPixel_inside s v hx hy, rfl, responseIs_packResponse_slot .ok .none _, ?_⟩,
    exec_setPixel_outside s v⟩
  exact fun j => s.writeSlot_getElem _ j v

/-- Settles O14: the range of the bulk write is the whole buffer. -/
theorem setAllWritesEverySlot : Obligations.SetAllWritesEverySlot := by
  refine fun s v => ⟨_, exec_setAll s v, rfl, fun j => ?_⟩
  rw [State.respond_buf, State.fillSlots_getElem, if_pos (by omega)]

/-- Settles O15: the range of the bulk write is the 48 entries of the chip, whatever the Address Table. -/
theorem setChipGroupWritesOneChip : Obligations.SetChipGroupWritesOneChip := by
  refine fun s k v => ⟨fun hk => ⟨_, exec_setChipGroup_of_lt s v hk, rfl, fun j => ?_⟩, exec_setChipGroup_of_le s v⟩
  rw [State.respond_buf, State.fillSlots_getElem]
  exact if_congr (by omega) rfl rfl

/-! ### The bytes of the frame that a write changes -/

/-- A byte of a frame is a sync byte or belongs to the one entry its offset names, so frames of buffers that agree on that entry
agree on that byte (20 R54). -/
theorem frame_getElem_congr {b b' : Vector Intensity 144} {n : Nat} (h : ∀ m, n = 2 + 2 * m ∨ n = 3 + 2 * m → b[m]? = b'[m]?) :
    (frame b)[n]? = (frame b')[n]? := by
  obtain rfl | rfl | ⟨m, rfl | rfl⟩ : n = 0 ∨ n = 1 ∨ ∃ m, n = 2 + 2 * m ∨ n = 3 + 2 * m := by
    have hparity : n = 0 ∨ n = 1 ∨ n = 2 + 2 * ((n - 2) / 2) ∨ n = 3 + 2 * ((n - 2) / 2) := by omega
    exact hparity.imp_right (·.imp_right fun hn => ⟨_, hn⟩)
  · rfl
  · rfl
  · rw [(frame_getElem b m).1, (frame_getElem b' m).1, h m (.inl rfl)]
  · rw [(frame_getElem b m).2, (frame_getElem b' m).2, h m (.inr rfl)]

/-- One write of an entry changes the two bytes of that entry in the frame, and no other byte. -/
theorem frame_set (b : Vector Intensity 144) (i : Fin 144) (v : Intensity) :
    (frame (b.set i v))[2 + 2 * i.val]? = some (hi8 v) ∧ (frame (b.set i v))[3 + 2 * i.val]? = some (lo8 v) ∧
    ∀ n : Nat, n ≠ 2 + 2 * i.val → n ≠ 3 + 2 * i.val → (frame (b.set i v))[n]? = (frame b)[n]? := by
  obtain ⟨hhi, hlo⟩ := frame_getElem (b.set i v) i.val
  have hentry : (b.set i v)[i.val]? = some v := Vector.getElem?_set_self i.isLt
  rw [hentry] at hhi hlo
  refine ⟨hhi, hlo, fun n hn hn' => frame_getElem_congr fun m hm => ?_⟩
  exact Vector.getElem?_set_ne i.isLt (by omega)

/-- Settles O28: SET_PIXEL in range is one write of an entry, and `frame_set` says which bytes that changes. -/
theorem setPixelHasNoCrossTalk : Obligations.SetPixelHasNoCrossTalk := by
  intro s t x y v h
  rw [exec_setPixel_inside s v x.isLt y.isLt] at h
  cases h
  exact frame_set s.buf (s.cfg.table.lookup x y).index v

end Sys2Proof.Machine

/-! PROOFS, family `42_frame_serializer.md`: what SERIALIZE answers with enough capacity, and the fault that SERIALIZE and the
SENDING step enter with too little. -/

namespace Sys2Proof.Machine

/-! ### The two outcomes of the capacity check -/

theorem exec_serialize_of_le {s : State} (hcap : 290 ≤ s.cfg.frameCapacity) :
    exec .serialize s = .next ((s.emitFrame (frame s.buf)).respond .ok .none none) :=
  if_neg (Bool.eq_false_iff.mp (s.overflows_false_iff.mpr hcap))

theorem exec_serialize_of_lt {s : State} (hcap : s.cfg.frameCapacity < 290) :
    exec .serialize s = .next s.overflowFault :=
  if_pos (s.overflows_iff.mpr hcap)

theorem sendingStep_of_lt {s : State} (hcap : s.cfg.frameCapacity < 290) : sendingStep s = s.overflowFault :=
  if_pos (s.overflows_iff.mpr hcap)

/-- Settles O26: the capacity check passes, and the frame is put out before the response. -/
theorem serializePutsOutTheFrame : Obligations.SerializePutsOutTheFrame :=
  fun _ hcap => exec_serialize_of_le hcap

/-! ### The overflow fault -/

/-- Fault entry with a command in progress answers it `FAULTED` and drops its hidden state (60 R203). -/
theorem State.raiseFault_of_command {s : State} {i : Instr} (hcmd : s.cmd = some i) (c : FaultCode) :
    s.raiseFault c = { s with
      fault := s.fault.orFirst c
      txTrace := bif s.handleOpen then s.txTrace ++ [.closeReq] else s.txTrace
      handleOpen := false, state := .failed
      rsp := some 0x60000000#32, lastStatus := .faulted, cmd := none, snapshot := none, ack0 := none } := by
  have hcmd' : ((s.keepFirstFault c).closeIfOpen.goto .failed).cmd = some i := by simp [State.closeIfOpen_eq, hcmd]
  rw [State.raiseFault, State.respondFaulted_of_some hcmd', State.closeIfOpen_eq]
  rfl

/-- An overflow that ends a command, where the handle is open, no fault is held, and the command has neither a snapshot nor a read
result yet (42 R141): no byte is put out or written. -/
theorem State.overflowFault_of_command {s : State} {i : Instr} (hcmd : s.cmd = some i) (hsnap : s.snapshot = none)
    (hack : s.ack0 = none) (hopen : s.handleOpen = true) (hnofault : s.fault = .none) :
    s.overflowFault = { s with
      logOut := s.logOut ++ [.bufferOverflow 290 s.cfg.frameCapacity]
      fault := .bufferOverflow, txTrace := s.txTrace ++ [.closeReq], handleOpen := false, state := .failed
      rsp := some 0x60000000#32, lastStatus := .faulted, cmd := none } := by
  rw [State.overflowFault, State.raiseFault_log, State.raiseFault_of_command hcmd, hopen, hnofault, hsnap, hack]
  rfl

theorem step_of_sending {s : State} (hr : s.rstAsserted = false) (hs : s.state = .sending) :
    step s = .next (sendingStep s.tick) := by
  simp [step, blockStep, hr, handshakeStep, hs]

/-- In `SENDING` the SEND is in progress, and has neither a snapshot nor a read result yet (10 R37). -/
theorem HiddenMatchesState.of_sending {s : State} (h : HiddenMatchesState s) (hs : s.state = .sending) :
    s.cmd = some .send ∧ s.snapshot = none ∧ s.ack0 = none := by
  obtain ⟨hcmd, hsnap, hack⟩ := h
  refine ⟨by simpa [hs] using hcmd, by simpa [hs] using hsnap, ?_⟩
  exact Option.eq_none_iff_forall_not_mem.mpr fun a ha => by
    obtain ⟨hawait, -⟩ := hack a ha
    simp [hs] at hawait

/-- Settles O27: both steps run `overflowFault` with a command in progress, and `overflowFault_of_command` says what it does there;
in `CONNECTED` no command was in progress before the step. -/
theorem overflowFaultsAndPutsOutNothing : Obligations.OverflowFaultsAndPutsOutNothing := by
  intro s hhandle hfault hhidden hr hcap
  have hopen : s.state = .connected ∨ s.state = .sending → s.handleOpen = true := by
    rintro (hs | hs) <;> rw [hhandle, hs] <;> rfl
  have hnofault : s.state ≠ .failed → s.fault = .none := fun hs => not_not.mp fun hne => hs (hfault.mpr hne)
  refine ⟨fun rest hs hi => ?_, fun hs => ?_⟩
  · obtain ⟨hcmd, hsnap, hack⟩ : HiddenEmpty s := hhidden.empty (by simp [hs])
    have hdecode : decode 0x50000000#32 = .ok .serialize := by decide
    rw [step_of_presented hr hs hcmd hi, runCommandWord_of_ok (by exact hs) hdecode, exec_serialize_of_lt (by exact hcap),
      State.overflowFault_of_command (s := State.beginCommand { s.tick with cmdIn := rest } .serialize) rfl hsnap hack
        (hopen (.inl hs)) (hnofault (by simp [hs])), hcmd]
    rfl
  · obtain ⟨hcmd, hsnap, hack⟩ := hhidden.of_sending hs
    rw [step_of_sending hr hs, sendingStep_of_lt (by exact hcap),
      State.overflowFault_of_command (s := s.tick) hcmd hsnap hack (hopen (.inr hs)) (hnofault (by simp [hs]))]
    rfl

end Sys2Proof.Machine

/-! PROOFS, family `43_transport_handshake.md`: the two invariants of the Transport port (where a handle is held, which exchange
is legal) and the transition table, all three by the branches of a step; then what the step of each state does, and the runs made of
these steps; last, what an exchange puts on the wire. -/

namespace Sys2Proof.Machine

/-! ### Where a handle is held -/

/-- A step that leaves the handle alone keeps the invariant where it goes to a state that holds a handle as the state before. -/
theorem handleMatches_of_kept {s t : State} (hinv : HandleMatchesState s) (hcfg : t.cfg = s.cfg)
    (hopen : t.handleOpen = s.handleOpen)
    (hstate : t.state.holdsHandle s.cfg.initOrder = s.state.holdsHandle s.cfg.initOrder) : HandleMatchesState t := by
  rw [HandleMatchesState, hcfg, hopen, hstate]
  exact hinv

/-- Fault entry ends in `FAILED` with the handle closed. -/
theorem State.raiseFault_handleMatches (s : State) (c : FaultCode) : HandleMatchesState (s.raiseFault c) := by
  rw [HandleMatchesState, State.raiseFault_handleOpen, State.raiseFault_state]
  rfl

/-- A successful open gives a handle. -/
theorem State.txOpen_handleOpen_of_ok {s : State} (ha : s.openAnswer = .ok) : s.txOpen.handleOpen = true := by simp [ha]

/-- A failed open gives none. -/
theorem State.txOpen_handleOpen_of_error {s : State} (ha : s.openAnswer = .error) : s.txOpen.handleOpen = s.handleOpen := by
  simp [ha]

/-- A handshake step opens the handle on the way to a state that holds it, closes it on the way to one that does not, and else
moves between states that agree on it. -/
theorem HandshakeCase.handleMatches {s t : State} (h : HandshakeCase s t) (hinv : HandleMatchesState s) :
    HandleMatchesState t := by
  cases h with
  | checksumMismatch | openFailed | resetWriteFailed | rebootFailed | reconnectExhausted | sendOverflow =>
    exact State.raiseFault_handleMatches _ _
  | openedForReset _ ha => exact State.txOpen_handleOpen_of_ok ha
  | opened _ ha | reconnected _ ha => exact (State.txOpen_handleOpen_of_ok ha).trans (linkUpState_holdsHandle _).symm
  | resetWritten => rfl
  | start hs => exact handleMatches_of_kept hinv rfl rfl (by rw [hs]; exact firstState_holdsHandle _)
  | validated hs => exact handleMatches_of_kept hinv rfl rfl (by rw [hs]; exact validatedState_holdsHandle _)
  | stillReconnecting hs ha =>
    exact handleMatches_of_kept hinv rfl (State.txOpen_handleOpen_of_error ha) (by rw [hs]; rfl)
  | firstRead => exact hinv
  | sendFailed hs | sent hs => exact handleMatches_of_kept hinv rfl rfl (by rw [hs]; rfl)
  | secondRead hs =>
    exact handleMatches_of_kept hinv (by simp [secondAckStep, State.logAck_eq]) (by simp [secondAckStep, State.logAck_eq])
      (by rw [hs]; rfl)

/-- A command that is run is run in `CONNECTED`. -/
theorem connected_of_running {s : State} (hs : s.state = .connected ∨ s.state = .failed ∨ s.state = .closed)
    (hrun : s.state ≠ .failed ∧ s.state ≠ .closed) : s.state = .connected :=
  hs.resolve_right (not_or.mpr hrun)

/-- A command closes the handle where it leaves the block in `CLOSED` or `FAILED`, and keeps it elsewhere. -/
theorem CommandCase.handleMatches {w : Word} {s t : State} (h : CommandCase w s t)
    (hs : s.state = .connected ∨ s.state = .failed ∨ s.state = .closed) (hinv : HandleMatchesState s) :
    HandleMatchesState t := by
  cases h with
  | serializeOverflow => exact State.raiseFault_handleMatches _ _
  | send hrun => exact handleMatches_of_kept hinv rfl rfl (by rw [connected_of_running hs hrun]; rfl)
  | close => rfl
  | _ => exact hinv

/-- Settles O43: a reset closes the handle, and the branches of the other steps each keep the invariant. -/
theorem stepKeepsHandleInvariant : Obligations.StepKeepsHandleInvariant := by
  intro s t hinv ht
  cases hr : s.rstAsserted with
  | true =>
    rw [step_of_rst hr ht]
    rfl
  | false =>
    cases step_of_low hr ht with
    | handshake _ hc => exact hc.handleMatches hinv
    | idle => exact hinv
    | command _ _ _ hs _ _ hc => exact hc.handleMatches hs hinv

/-! ### The legal exchange -/

/-- A step that makes no request keeps the exchange legal where the state it goes to has the same phase. -/
theorem exchangeIsLegal_of_kept {s t : State} (hinv : ExchangeIsLegal s) (htrace : t.txTrace = s.txTrace)
    (hphase : t.phase = s.phase) : ExchangeIsLegal t := by
  rw [ExchangeIsLegal, htrace, hphase]
  exact hinv

/-- One request more: it is legal in the phase of the state before, and leads to the phase of the state after. -/
theorem exchangeIsLegal_of_request {s t : State} {e : TxEvent} (hinv : ExchangeIsLegal s)
    (htrace : t.txTrace = s.txTrace ++ [e]) (hnext : s.phase.next e = some t.phase) : ExchangeIsLegal t := by
  rw [ExchangeIsLegal, htrace, phaseAfter_append, hinv]
  exact hnext

/-- Fault entry with its record closes the handle that is open: legal where the exchange has come to an open handle that may be
closed, or to no handle. -/
theorem State.raiseFault_exchangeIsLegal {s : State} {p : TxPhase} (hp : phaseAfter s.txTrace = some p)
    (hclose : if s.handleOpen then p.next .closeReq = some .noHandle else p = .noHandle) (e : LogEvent) (c : FaultCode) :
    ExchangeIsLegal ((s.log e).raiseFault c) := by
  have hphase : ((s.log e).raiseFault c).phase = .noHandle := by simp [State.phase]
  rw [ExchangeIsLegal, hphase, State.raiseFault_txTrace, State.log_handleOpen, State.log_txTrace]
  cases h : s.handleOpen <;> simp_all

/-- `LINKUP` goes to a state with an open handle and nothing outstanding. -/
theorem State.linkUp_phase (s : State) : s.linkUp.phase = .idle := by
  cases h : s.cfg.initOrder <;> simp [State.phase, linkUpState, h]

/-- In the two states that open the port there is no handle yet. -/
theorem State.phase_of_opening {s : State} (hs : s.state = .opening ∨ s.state = .reconnecting) : s.phase = .noHandle := by
  obtain hs | hs := hs <;> simp [State.phase, hs]

/-- There an open is legal, and a successful one gives a handle (43 R160). -/
theorem phaseAfter_txOpen_of_ok {s : State} (hinv : ExchangeIsLegal s) (hs : s.state = .opening ∨ s.state = .reconnecting)
    (ha : s.openAnswer = .ok) : phaseAfter s.txOpen.txTrace = some .idle := by
  simp [hinv, State.phase_of_opening hs, ha, TxPhase.next]

theorem phaseAfter_txOpen_of_error {s : State} (hinv : ExchangeIsLegal s) (hs : s.state = .opening ∨ s.state = .reconnecting)
    (ha : s.openAnswer = .error) : phaseAfter s.txOpen.txTrace = some .noHandle := by
  simp [hinv, State.phase_of_opening hs, ha, TxPhase.next]

/-- After the reset command the handle is to be closed, whatever the answer was (43 R166). -/
theorem phaseAfter_resetCommand {s : State} (hinv : ExchangeIsLegal s) (hs : s.state = .resetting) :
    phaseAfter (s.txWrite resetCommand).txTrace = some .closing := by
  simp [hinv, State.phase, hs, resetCommand, TxPhase.next]

/-- A frame is written on an open handle with nothing outstanding; its acknowledgment follows if the answer was `Ok` (20 R60). -/
theorem TxPhase.next_frame_ok (b : Vector Intensity 144) : TxPhase.idle.next (.writeReq (frame b) .ok) = some .frameSent := by
  simp [TxPhase.next, frame_ne_resetCommand]

theorem TxPhase.next_frame_error (b : Vector Intensity 144) : TxPhase.idle.next (.writeReq (frame b) .error) = some .idle := by
  simp [TxPhase.next, frame_ne_resetCommand]

/-- A handshake step makes the requests that the exchange allows in its state, and leaves the exchange where the next state says.
In `SENDING` no first read result is left of an earlier SEND. -/
theorem HandshakeCase.exchangeIsLegal {s t : State} (h : HandshakeCase s t) (hhandle : HandleMatchesState s)
    (hhidden : HiddenMatchesState s) (hinv : ExchangeIsLegal s) : ExchangeIsLegal t := by
  cases h with
  | start hs =>
    exact exchangeIsLegal_of_kept hinv rfl (by cases h : s.cfg.initOrder <;> simp [State.phase, firstState, hs, h])
  | validated hs =>
    exact exchangeIsLegal_of_kept hinv rfl (by cases h : s.cfg.initOrder <;> simp [State.phase, validatedState, hs, h])
  | checksumMismatch hs =>
    refine State.raiseFault_exchangeIsLegal (s := s.report _ .failed) hinv ?_ _ _
    rw [State.report_handleOpen, hhandle]
    cases h : s.cfg.initOrder <;> simp [State.phase, HState.holdsHandle, TxPhase.next, hs, h]
  | openFailed hs ha =>
    refine State.raiseFault_exchangeIsLegal (phaseAfter_txOpen_of_error hinv (.inl hs) ha) ?_ _ _
    simp [hhandle, hs, ha, HState.holdsHandle]
  | openedForReset hs ha => exact phaseAfter_txOpen_of_ok hinv (.inl hs) ha
  | opened hs ha =>
    rw [ExchangeIsLegal, State.linkUp_phase]
    exact phaseAfter_txOpen_of_ok hinv (.inl hs) ha
  | resetWriteFailed hs =>
    refine State.raiseFault_exchangeIsLegal (phaseAfter_resetCommand hinv hs) ?_ _ _
    simp [hhandle, hs, HState.holdsHandle, TxPhase.next]
  | resetWritten hs =>
    have hp := phaseAfter_resetCommand hinv hs
    exact (phaseAfter_append _ _).trans (congrArg (Option.bind · fun p => p.next .closeReq) hp)
  | rebootFailed hs ha =>
    refine State.raiseFault_exchangeIsLegal (s := s.reopen) (phaseAfter_txOpen_of_ok hinv (.inr hs) ha) ?_ _ _
    simp [ha, TxPhase.next]
  | reconnected hs ha =>
    rw [ExchangeIsLegal, State.linkUp_phase]
    exact phaseAfter_txOpen_of_ok hinv (.inr hs) ha
  | reconnectExhausted hs ha =>
    refine State.raiseFault_exchangeIsLegal (s := s.reopen) (phaseAfter_txOpen_of_error hinv (.inr hs) ha) ?_ _ _
    simp [hhandle, hs, ha, HState.holdsHandle]
  | stillReconnecting hs ha => exact phaseAfter_txOpen_of_error hinv (.inr hs) ha
  | sendOverflow hs =>
    refine State.raiseFault_exchangeIsLegal hinv ?_ _ _
    simp [hhandle, hs, HState.holdsHandle, State.phase, TxPhase.next]
  | sendFailed hs _ ha =>
    refine exchangeIsLegal_of_request (e := .writeReq (frame s.buf) s.writeAnswer) hinv rfl ?_
    simp [State.phase, hs, ha, TxPhase.next_frame_error]
  | sent hs _ ha =>
    obtain ⟨-, -, hack⟩ := hhidden.of_sending hs
    refine exchangeIsLegal_of_request (e := .writeReq (frame s.buf) s.writeAnswer) hinv rfl ?_
    simp [State.phase, hs, ha, hack, TxPhase.next_frame_ok]
  | firstRead hs h0 =>
    refine exchangeIsLegal_of_request (e := .readReq ackTimeout0 s.readAnswer) hinv rfl ?_
    simp [State.phase, firstAckStep, hs, h0, TxPhase.next, ackTimeout0]
  | secondRead hs a0 h0 =>
    refine exchangeIsLegal_of_request (e := .readReq ackTimeout1 s.readAnswer) hinv ?_ ?_
    · simp [secondAckStep, State.logAck_eq]
    · simp [State.phase, secondAckStep, hs, h0, TxPhase.next, ackTimeout1]

/-- A command makes no request of the Transport, except that CLOSE and an overflow close the handle. -/
theorem CommandCase.exchangeIsLegal {w : Word} {s t : State} (h : CommandCase w s t)
    (hs : s.state = .connected ∨ s.state = .failed ∨ s.state = .closed) (hhandle : HandleMatchesState s)
    (hinv : ExchangeIsLegal s) : ExchangeIsLegal t := by
  cases h with
  | serializeOverflow hrun =>
    refine State.raiseFault_exchangeIsLegal (s := s.beginCommand _) hinv ?_ _ _
    simp [hhandle, connected_of_running hs hrun, HState.holdsHandle, State.phase, TxPhase.next]
  | send hrun => exact exchangeIsLegal_of_kept hinv rfl (by simp [State.phase, connected_of_running hs hrun])
  | close hrun =>
    exact exchangeIsLegal_of_request hinv rfl (by simp [State.phase, connected_of_running hs hrun, TxPhase.next])
  | _ => exact exchangeIsLegal_of_kept hinv rfl (by obtain hs | hs | hs := hs <;> simp [State.phase, hs])

/-- A reset is legal in every state, with the request that it cuts there; an open handle is then still to be closed. -/
theorem State.phase_next_rst (s : State) :
    s.phase.next (.rst s.cutRequest) =
      some (if s.state.holdsHandle s.cfg.initOrder then .closing else .noHandle) := by
  obtain hcut | ⟨hs | hs, hcut⟩ | ⟨hs, hcut⟩ | ⟨hs, -, hcut⟩ | ⟨hs, hcut⟩ := s.cutRequest_cases <;> rw [hcut]
  · cases hs : s.state with
    | validating => cases h : s.cfg.initOrder <;> simp [State.phase, HState.holdsHandle, TxPhase.next, hs, h]
    | awaitingAck => cases h : s.ack0 <;> simp [State.phase, HState.holdsHandle, TxPhase.next, hs, h]
    | _ => simp [State.phase, HState.holdsHandle, TxPhase.next, hs]
  iterate 4
    · simp [State.phase, HState.holdsHandle, TxPhase.next, hs]
  · cases h : s.ack0 <;> simp [State.phase, HState.holdsHandle, TxPhase.next, hs, h, ackTimeout0, ackTimeout1]

/-- After a reset and the close of an open handle there is no handle, as in `DISCONNECTED` (70 R232). -/
theorem State.applyReset_exchangeIsLegal {s : State} (hhandle : HandleMatchesState s) (hinv : ExchangeIsLegal s) :
    ExchangeIsLegal (applyReset s.cutRequest s.tick) := by
  have hp := s.phase_next_rst
  rw [← hhandle] at hp
  have hphase : (applyReset s.cutRequest s.tick).phase = .noHandle := rfl
  have htrace : phaseAfter (s.txTrace ++ [.rst s.cutRequest]) = some (if s.handleOpen then .closing else .noHandle) := by
    rw [phaseAfter_append, hinv]
    exact hp
  rw [ExchangeIsLegal, hphase, applyReset_txTrace, State.tick_txTrace, State.tick_handleOpen, List.append_cons]
  cases h : s.handleOpen with
  | false => simpa [h] using htrace
  | true =>
    rw [cond_true, phaseAfter_append, htrace, h]
    rfl

/-- Settles O47: a reset is legal in every phase, and the branches of the other steps each keep the exchange legal. -/
theorem stepKeepsLegalExchange : Obligations.StepKeepsLegalExchange := by
  intro s t hhandle hhidden hinv ht
  cases hr : s.rstAsserted with
  | true =>
    rw [step_of_rst hr ht]
    exact State.applyReset_exchangeIsLegal hhandle hinv
  | false =>
    cases step_of_low hr ht with
    | handshake _ hc => exact hc.exchangeIsLegal hhandle hhidden hinv
    | idle => exact hinv
    | command _ _ _ hs _ _ hc => exact hc.exchangeIsLegal hs hhandle hinv

/-! ### The transition table -/

/-- A handshake step goes along a row of its state (43 R162). -/
theorem HandshakeCase.mayGo {s t : State} (h : HandshakeCase s t) : Machine.mayGo s.cfg s.state t.state = true := by
  cases h with
  | checksumMismatch hs | openFailed hs | resetWriteFailed hs | rebootFailed hs | reconnectExhausted hs | sendOverflow hs =>
    rw [hs]
    simp [Machine.mayGo, State.overflowFault_frame]
  | start hs => cases h : s.cfg.initOrder <;> simp [Machine.mayGo, firstState, hs, h]
  | validated hs => cases h : s.cfg.initOrder <;> simp [Machine.mayGo, validatedState, hs, h]
  | openedForReset hs _ hreset => simp [Machine.mayGo, hs, hreset]
  | opened hs _ hreset => simp [Machine.mayGo, linkUpState_eq, hs, hreset]
  | reconnected hs => simp [Machine.mayGo, linkUpState_eq, hs]
  | resetWritten hs | stillReconnecting hs | sendFailed hs | sent hs | secondRead hs => simp [Machine.mayGo, secondAckStep, hs]
  | firstRead hs => simp [Machine.mayGo, firstAckStep, hs]

/-- A state in which the block waits for a command may stay as it is. -/
theorem mayGo_self (c : Config) {h : HState} (hs : h = .connected ∨ h = .failed ∨ h = .closed) : mayGo c h h = true := by
  obtain rfl | rfl | rfl := hs <;> simp [mayGo]

/-- A command goes along a row of `CONNECTED`, or stays in the state in which it was accepted. -/
theorem CommandCase.mayGo {w : Word} {s t : State} (h : CommandCase w s t)
    (hs : s.state = .connected ∨ s.state = .failed ∨ s.state = .closed) : Machine.mayGo s.cfg s.state t.state = true := by
  cases h with
  | serializeOverflow hrun | send hrun | close hrun =>
    rw [connected_of_running hs hrun]
    simp [Machine.mayGo, State.overflowFault_frame]
  | _ => exact mayGo_self _ hs

/-- Settles O42: by whether `rst` is asserted, the row of the reset or the rows of the step's branches. -/
theorem stepsFollowTheTransitionTable : Obligations.StepsFollowTheTransitionTable := by
  intro s t ht
  cases hr : s.rstAsserted with
  | true =>
    rw [step_of_rst hr ht]
    rfl
  | false =>
    rw [if_neg (by decide)]
    cases step_of_low hr ht with
    | handshake _ hc => exact hc.mayGo
    | idle hs => exact mayGo_self _ hs
    | command _ _ _ hs _ _ hc => exact hc.mayGo hs

/-! ### The steps of construction -/

theorem step_of_disconnected {s : State} (hr : s.rstAsserted = false) (hs : s.state = .disconnected) :
    step s = .next (startConstruction s.tick) := by
  simp [step, blockStep, hr, handshakeStep, hs]

theorem step_of_opening {s : State} (hr : s.rstAsserted = false) (hs : s.state = .opening) :
    step s = .next (openingStep s.tick) := by
  simp [step, blockStep, hr, handshakeStep, hs]

theorem step_of_resetting {s : State} (hr : s.rstAsserted = false) (hs : s.state = .resetting) :
    step s = .next (resettingStep s.tick) := by
  simp [step, blockStep, hr, handshakeStep, hs]

theorem step_of_reconnecting {s : State} (hr : s.rstAsserted = false) (hs : s.state = .reconnecting) :
    step s = .next (reconnectingStep s.tick) := by
  simp [step, blockStep, hr, handshakeStep, hs]

theorem firstState_eq (o : InitOrder) : firstState o = if o = .validateFirst then .validating else .opening := by
  cases o <;> rfl

/-- Settles O29: the one step of `DISCONNECTED` is the start of construction. -/
theorem constructionStartsInItsOrder : Obligations.ConstructionStartsInItsOrder := by
  intro s hr hs
  rw [step_of_disconnected hr hs, ← firstState_eq]
  rfl

/-- During construction no command is in progress, and no fault is held. -/
theorem no_command_no_fault {s : State} (hfault : FaultMatchesState s) (hhidden : HiddenMatchesState s)
    (hs : s.state ≠ .failed ∧ ¬ (s.state = .sending ∨ s.state = .awaitingAck)) : s.cmd = none ∧ s.fault = .none :=
  ⟨(hhidden.empty hs.2).1, not_not.mp fun hne => hs.1 (hfault.mpr hne)⟩

/-- The first fault, with its record, where no command is in progress: it makes no response (60 R203). -/
theorem State.log_raiseFault_of_no_command {s : State} (hcmd : s.cmd = none) (hnofault : s.fault = .none) (e : LogEvent)
    (c : FaultCode) :
    (s.log e).raiseFault c = { s with
      logOut := s.logOut ++ [e]
      fault := c
      txTrace := bif s.handleOpen then s.txTrace ++ [.closeReq] else s.txTrace
      handleOpen := false, state := .failed } := by
  rw [State.raiseFault_log, State.raiseFault_of_no_command hcmd, hnofault]
  rfl

theorem openingStep_of_error {s : State} (ha : s.openAnswer = .error) :
    openingStep s = (s.txOpen.log .portOpenFailed).raiseFault .portOpenFailed := by
  simp [openingStep, ha]

/-- After a successful open the block resets the device, or the link is up (43 R164). -/
theorem openingStep_of_ok {s : State} (ha : s.openAnswer = .ok) :
    openingStep s = s.txOpen.goto (if s.cfg.resetOnStart then .resetting else linkUpState s.cfg.initOrder) := by
  cases hreset : s.cfg.resetOnStart <;> simp [openingStep, ha, hreset, State.linkUp]

/-- Settles O30: an error is a fault without a handle, and a success gives the handle. -/
theorem openingStep_spec : Obligations.OpeningStep := by
  intro s hhandle hfault hhidden hr hs
  obtain ⟨hcmd, hnofault⟩ := no_command_no_fault hfault hhidden (by simp [hs])
  have hclosed : s.handleOpen = false := by rw [hhandle, hs]; rfl
  refine ⟨fun ha => ⟨_, step_of_opening hr hs, ?_⟩, fun ha => ⟨_, step_of_opening hr hs, ?_⟩⟩
  · rw [openingStep_of_error (s := s.tick) ha, State.log_raiseFault_of_no_command (by exact hcmd) (by exact hnofault)]
    simp [State.txOpen, hclosed, ha]
  · rw [openingStep_of_ok (s := s.tick) ha]
    simp [State.txOpen, State.goto, ha, linkUpState_eq, linkUpTarget]

theorem resettingStep_of_error {s : State} (ha : s.writeAnswer = .error) :
    resettingStep s = ((s.txWrite resetCommand).log .resetWriteFailed).raiseFault .resetWriteFailed := by
  simp [resettingStep, ha]

theorem resettingStep_of_ok {s : State} (ha : s.writeAnswer = .ok) :
    resettingStep s = { (s.txWrite resetCommand).txClose with reconnectAttempts := 0#32, state := .reconnecting } := by
  simp [resettingStep, ha]

/-- Settles O31: either answer closes the handle, an error by fault entry. -/
theorem resettingStep_spec : Obligations.ResettingStep := by
  intro s hhandle hfault hhidden hr hs
  obtain ⟨hcmd, hnofault⟩ := no_command_no_fault hfault hhidden (by simp [hs])
  have hopen : s.handleOpen = true := by rw [hhandle, hs]; rfl
  refine ⟨fun ha => ⟨_, step_of_resetting hr hs, ?_⟩, fun ha => ⟨_, step_of_resetting hr hs, ?_⟩⟩
  · rw [resettingStep_of_error (s := s.tick) ha, State.log_raiseFault_of_no_command (by exact hcmd) (by exact hnofault)]
    simp [State.txWrite, resetCommand, hopen, ha]
  · rw [resettingStep_of_ok (s := s.tick) ha]
    simp [State.txWrite, State.txClose, resetCommand, ha]

/-! ### The RECONNECTING step -/

theorem boundReached_iff (bound : ReconnectBound) (n : BitVec 32) :
    boundReached bound n = true ↔ ∃ m, bound = some m ∧ m.val ≤ n.toNat := by
  cases bound <;> simp [boundReached]

theorem boundReached_false_iff (bound : ReconnectBound) (n : BitVec 32) :
    boundReached bound n = false ↔ ∀ m, bound = some m → n.toNat < m.val := by
  cases bound <;> simp [boundReached]

/-- A success as the first attempt is a reboot failure (43 R167). -/
theorem reconnectingStep_of_first {s : State} (ha : s.openAnswer = .ok) (hn : saturatingSucc s.reconnectAttempts = 1#32) :
    reconnectingStep s = (s.reopen.log (.rebootFailed s.reopen.reconnectAttempts)).raiseFault .rebootFailed := by
  simp [reconnectingStep, ha, hn]

theorem reconnectingStep_of_later {s : State} (ha : s.openAnswer = .ok) (hn : saturatingSucc s.reconnectAttempts ≠ 1#32) :
    reconnectingStep s = s.reopen.linkUp := by
  simp [reconnectingStep, ha, hn]

theorem reconnectingStep_of_exhausted {s : State} (ha : s.openAnswer = .error)
    (hb : boundReached s.cfg.maxReconnect (saturatingSucc s.reconnectAttempts) = true) :
    reconnectingStep s = (s.reopen.log (.reconnectExhausted s.reopen.reconnectAttempts)).raiseFault .reconnectExhausted := by
  simp [reconnectingStep, ha, hb]

theorem reconnectingStep_of_error {s : State} (ha : s.openAnswer = .error)
    (hb : boundReached s.cfg.maxReconnect (saturatingSucc s.reconnectAttempts) = false) :
    reconnectingStep s = s.reopen.goto .reconnecting := by
  simp [reconnectingStep, ha, hb]

/-- Settles O32: the attempt number is the counter after the step; a success gives the handle, which a reboot failure closes. -/
theorem reconnectingStep_spec : Obligations.ReconnectingStep := by
  intro s hhandle hfault hhidden hr hs
  obtain ⟨hcmd, hnofault⟩ := no_command_no_fault hfault hhidden (by simp [hs])
  have hclosed : s.handleOpen = false := by rw [hhandle, hs]; rfl
  have hstep := step_of_reconnecting hr hs
  refine ⟨saturatingSucc s.reconnectAttempts, saturatingSucc_toNat _, fun ha hn => ⟨_, hstep, ?_⟩,
    fun ha hn => ⟨_, hstep, ?_⟩, fun ha hb => ⟨_, hstep, ?_⟩, fun ha hb => ⟨_, hstep, ?_⟩⟩
  · rw [reconnectingStep_of_first (s := s.tick) ha hn,
      State.log_raiseFault_of_no_command (by exact hcmd) (by exact hnofault)]
    simp [State.reopen, State.txOpen, hclosed, ha]
  · rw [reconnectingStep_of_later (s := s.tick) ha hn]
    simp [State.reopen, State.txOpen, State.linkUp, State.goto, ha, linkUpState_eq, linkUpTarget]
  · rw [reconnectingStep_of_exhausted (s := s.tick) ha ((boundReached_iff _ _).mpr hb),
      State.log_raiseFault_of_no_command (by exact hcmd) (by exact hnofault)]
    simp [State.reopen, State.txOpen, hclosed, ha]
  · rw [reconnectingStep_of_error (s := s.tick) ha ((boundReached_false_iff _ _).mpr hb)]
    simp [State.reopen, State.txOpen, State.goto, ha]

/-! ### How long RECONNECTING lasts -/

/-- Settles O35: by induction on the number of steps; with no bound an error leaves the block where it was, one attempt later. -/
theorem unboundedReconnectNeverEnds : Obligations.UnboundedReconnectNeverEnds := by
  intro n
  induction n with
  | zero =>
    intro s opens hs _ _ hopens
    have hlt := s.reconnectAttempts.isLt
    exact ⟨s, rfl, hs, rfl, by simp, by omega, hopens, rfl⟩
  | succ n ih =>
    intro s opens hs hbound hrst hopens
    have ha : s.openAnswer = .error := State.openAnswer_cons (by rw [hopens, List.replicate_succ, List.cons_append])
    have hr : s.rstAsserted = false := State.rstAsserted_of_low (by simp [hrst])
    have hstep : step s = .next (s.tick.reopen.goto .reconnecting) := by
      rw [step_of_reconnecting hr hs, reconnectingStep_of_error (s := s.tick) ha (by simp [hbound, boundReached])]
    obtain ⟨t, hrun, ht, hcmds, hrsp, hcount, hleft, hlog⟩ :=
      ih (s.tick.reopen.goto .reconnecting) opens rfl hbound (by simp [hrst]) (by simp [hopens, List.replicate_succ])
    refine ⟨t, (runSteps_succ hstep n).trans hrun, ht, hcmds, fun _ => ?_, ?_, hleft, hlog⟩
    · cases n with
      | zero => cases hrun; rfl
      | succ n => exact hrsp (by omega)
    · have hlt := s.reconnectAttempts.isLt
      simp only [State.goto_reconnectAttempts, State.reopen_reconnectAttempts, State.tick_reconnectAttempts,
        saturatingSucc_toNat] at hcount
      omega

/-- A handshake step from RECONNECTING leaves it, or was an error with the bound not reached. -/
theorem HandshakeCase.leaves_or_still_reconnecting {s t : State} (h : HandshakeCase s t) (hs : s.state = .reconnecting) :
    t.state ≠ .reconnecting ∨
      boundReached s.cfg.maxReconnect (saturatingSucc s.reconnectAttempts) = false ∧ t = s.reopen.goto .reconnecting := by
  cases h with
  | stillReconnecting _ _ hb => exact .inr ⟨hb, rfl⟩
  | rebootFailed | reconnectExhausted => exact .inl (by simp)
  | reconnected => exact .inl (by cases h : s.cfg.initOrder <;> simp [linkUpState, h])
  | _ => simp_all

/-- Under a bound `m`, a step from RECONNECTING leaves it, or counts an attempt that does not reach the bound and changes nothing
that decides the next step. -/
theorem step_leaves_or_counts {s : State} {m : { n : Nat // 2 ≤ n }} (hs : s.state = .reconnecting)
    (hbound : s.cfg.maxReconnect = some m) (hlow : ∀ b ∈ s.rstIn, b = .low) :
    ∃ t, step s = .next t ∧ (t.state ≠ .reconnecting ∨
      t.state = .reconnecting ∧ t.cfg = s.cfg ∧ t.rstIn = s.rstIn.tail ∧
      t.reconnectAttempts.toNat = min (s.reconnectAttempts.toNat + 1) 0xFFFFFFFF ∧ t.reconnectAttempts.toNat < m.val) := by
  refine ⟨_, step_of_reconnecting (State.rstAsserted_of_low hlow) hs, ?_⟩
  obtain hleft | ⟨hb, hstill⟩ := (reconnectingStep_case (s := s.tick) hs).leaves_or_still_reconnecting hs
  · exact .inl hleft
  · rw [hstill]
    exact .inr ⟨rfl, rfl, rfl, saturatingSucc_toNat _, (boundReached_false_iff _ _).mp hb m hbound⟩

/-- With `d + 1` attempts left to a bound that the counter can reach, RECONNECTING is left after at most `d + 1` steps: while it
is not left, each step counts an attempt. -/
theorem leaves_reconnecting_within {m : { n : Nat // 2 ≤ n }} (hm : m.val ≤ 0xFFFFFFFF) (d : Nat) {s : State}
    (hs : s.state = .reconnecting) (hbound : s.cfg.maxReconnect = some m) (hlow : ∀ b ∈ s.rstIn, b = .low)
    (hd : m.val ≤ s.reconnectAttempts.toNat + (d + 1)) :
    ∃ k t, 1 ≤ k ∧ k ≤ d + 1 ∧ runSteps k s = .next t ∧ t.state ≠ .reconnecting := by
  induction d generalizing s with
  | zero =>
    obtain ⟨t, hstep, hleft | ⟨-, -, -, hcount, hlt⟩⟩ := step_leaves_or_counts hs hbound hlow
    · exact ⟨1, t, le_rfl, le_rfl, runSteps_succ hstep 0, hleft⟩
    · omega
  | succ d ih =>
    obtain ⟨t, hstep, hleft | ⟨ht, hcfg, hrst, hcount, hlt⟩⟩ := step_leaves_or_counts hs hbound hlow
    · exact ⟨1, t, le_rfl, by omega, runSteps_succ hstep 0, hleft⟩
    · have hlow' : ∀ b ∈ t.rstIn, b = .low := fun b hb => hlow b (List.mem_of_mem_tail (hrst ▸ hb))
      obtain ⟨k, u, -, hk, hrun, hu⟩ := ih ht (hcfg ▸ hbound) hlow' (by omega)
      exact ⟨k + 1, u, by omega, by omega, (runSteps_succ hstep k).trans hrun, hu⟩

/-- Settles O36: from any value of the counter at most `m` attempts are left. -/
theorem boundedReconnectEnds : Obligations.BoundedReconnectEnds := by
  intro s m hs hbound hm hlow
  have hpos := m.property
  obtain ⟨k, t, hk, hkm, hrun, ht⟩ := leaves_reconnecting_within hm (m.val - 1) hs hbound hlow (by omega)
  exact ⟨k, t, hk, by omega, hrun, ht⟩

/-! ### SEND and CLOSE -/

theorem sendingStep_of_error {s : State} (hcap : 290 ≤ s.cfg.frameCapacity) (ha : s.writeAnswer = .error) :
    sendingStep s =
      ((({ (s.clearAckRaw.txWrite (frame s.buf)) with lastAck := .none }.log .writeError).goto .connected).respond
        .writeError .none none) := by
  simp [sendingStep, s.overflows_false_iff.mpr hcap, ha]

theorem sendingStep_of_ok {s : State} (hcap : 290 ≤ s.cfg.frameCapacity) (ha : s.writeAnswer = .ok) :
    sendingStep s =
      { (s.clearAckRaw.txWrite (frame s.buf)) with snapshot := some (frame s.buf), state := .awaitingAck } := by
  simp [sendingStep, s.overflows_false_iff.mpr hcap, ha]

/-- The record of the frame's write carries the answer that the step takes. -/
theorem State.txWrite_of_answer {s : State} {a : TxResult} (ha : s.writeAnswer = a) (bytes : List Byte) :
    s.txWrite bytes = { s with
      txTrace := s.txTrace ++ [.writeReq bytes a], writeIn := s.writeIn.tail, oracleIx := s.oracleIx + 1 } := by
  rw [State.txWrite, ha]

/-- Settles O37: the capacity check passes, and the answer to the one write decides. -/
theorem sendIsAcceptedAndWritesTheFrame : Obligations.SendIsAcceptedAndWritesTheFrame := by
  refine ⟨fun _ => rfl, fun s hr hs hcap => ⟨fun ha => ?_, fun ha => ?_⟩⟩
  · rw [step_of_sending hr hs, sendingStep_of_error (s := s.tick) hcap ha,
      State.txWrite_of_answer (s := s.tick.clearAckRaw) ha]
    rfl
  · rw [step_of_sending hr hs, sendingStep_of_ok (s := s.tick) hcap ha,
      State.txWrite_of_answer (s := s.tick.clearAckRaw) ha]
    rfl

theorem step_of_first_read {s : State} (hr : s.rstAsserted = false) (hs : s.state = .awaitingAck) (h0 : s.ack0 = none) :
    step s = .next (firstAckStep s.tick) := by
  simp [step, blockStep, hr, handshakeStep, hs, awaitingAckStep, h0]

theorem step_of_second_read {s : State} {a0 : ReadAnswer} (hr : s.rstAsserted = false) (hs : s.state = .awaitingAck)
    (h0 : s.ack0 = some a0) : step s = .next (secondAckStep a0 s.tick) := by
  simp [step, blockStep, hr, handshakeStep, hs, awaitingAckStep, h0]

/-- The second AWAITING_ACK step, written out: the read, its record, the class, its record in the log, the response (43 R173). -/
theorem secondAckStep_eq (a0 : ReadAnswer) (s : State) :
    secondAckStep a0 s = { s with
      txTrace := s.txTrace ++ [.readReq 10 s.readAnswer], readIn := s.readIn.tail, oracleIx := s.oracleIx + 1
      ackRaw1 := kindAndByte s.readAnswer, lastAck := classify a0 s.readAnswer
      logOut := s.logOut ++ (ackEvent (classify a0 s.readAnswer) s.ackRaw0 (kindAndByte s.readAnswer)).toList
      state := .connected, rsp := some (packResponse .ok (classify a0 s.readAnswer) none)
      lastStatus := .ok, cmd := none, snapshot := none, ack0 := none } := by
  rw [secondAckStep, State.logAck_eq]
  rfl

theorem packSlot_none_toNat : (packSlot none).toNat = 0 := rfl

/-- A response that reports no slot reads back field by field (30 R76). -/
theorem responseIs_packResponse_none (status : Status) (ack : AckClass) :
    ResponseIs (packResponse status ack none) status.code.toNat ack.code.toNat 0 0 0 0 := by
  have hword := packResponse_toNat status ack none
  rw [packSlot_none_toNat] at hword
  have hzero : ((packResponse status ack none).extractLsb' 0 8).toNat = 0 := by
    rw [extract_toNat, hword]
    omega
  refine ⟨by rw [packResponse_status], by rw [packResponse_ack], ?_, ?_, ?_, ?_, BitVec.eq_of_toNat_eq hzero⟩ <;>
    rw [extract_toNat, hword] <;> omega

/-- `0x100 | b` sets bit 8 above the byte (10 R31). -/
theorem kindAndByte_byte (b : Byte) : kindAndByte (.byte b) = 0x100#10 ||| b.setWidth 10 := by
  apply BitVec.eq_of_getLsbD_eq
  intro k hk
  simp only [kindAndByte, BitVec.getLsbD_append, BitVec.getLsbD_or, BitVec.getLsbD_setWidth]
  interval_cases k <;> simp

/-- Settles O38: each step makes its read, and the second one ends the SEND whatever the reads gave. -/
theorem awaitingAckSteps : Obligations.AwaitingAckSteps := by
  refine ⟨kindAndByte_byte, rfl, rfl, fun s hr hs => ⟨fun h0 => ⟨_, step_of_first_read hr hs h0, rfl⟩, fun a0 h0 => ?_⟩⟩
  refine ⟨_, _, step_of_second_read hr hs h0, ?_, responseIs_packResponse_none .ok _⟩
  rw [secondAckStep_eq]
  cases hc : classify a0 s.readAnswer <;> simp [hc, ackEvent]

/-- Settles O39: the tests of 43 R174 in their order. -/
theorem acknowledgmentClassification : Obligations.AcknowledgmentClassification := by
  refine ⟨fun a => ?_, fun a ha => ?_, by decide, fun b0 b1 hb => ?_⟩
  · simp [classify]
  · simp [classify, ha]
  · simp only [classify]
    simpa [ackByte0, ackByte1] using hb

/-- `AWAITING_ACK` is two steps: the reads with 90 and with 10, and then the SEND is answered. -/
theorem runSteps_from_awaitingAck {s : State} {a0 a1 : ReadAnswer} {reads : List ReadAnswer} (hrst : s.rstIn = [])
    (hs : s.state = .awaitingAck) (h0 : s.ack0 = none) (hreads : s.readIn = a0 :: a1 :: reads) :
    runSteps 2 s = .next { s with
      txTrace := s.txTrace ++ [.readReq 90 a0, .readReq 10 a1], readIn := reads, oracleIx := s.oracleIx + 2
      ackRaw0 := kindAndByte a0, ackRaw1 := kindAndByte a1, lastAck := classify a0 a1
      logOut := s.logOut ++ (ackEvent (classify a0 a1) (kindAndByte a0) (kindAndByte a1)).toList
      state := .connected, rsp := some (packResponse .ok (classify a0 a1) none), lastStatus := .ok
      cmd := none, snapshot := none, ack0 := none } := by
  have hfirst := step_of_first_read (State.rstAsserted_of_low (by simp [hrst])) hs h0
  have hsecond : step (firstAckStep s.tick) = .next (secondAckStep s.readAnswer (firstAckStep s.tick).tick) :=
    step_of_second_read (State.rstAsserted_of_low (by simp [firstAckStep, hrst])) hs rfl
  rw [runSteps_succ hfirst, runSteps_succ hsecond, runSteps_zero, secondAckStep_eq]
  simp [firstAckStep, State.txRead, State.tick, State.readAnswer, hrst, hreads, ackTimeout0]

/-- Settles O40: the step that accepts SEND, the step that writes the frame, and the two reads. -/
theorem sendRoundTrip : Obligations.SendRoundTrip := by
  intro s cmds writes a0 a1 reads hs hcmd hack hrst hcap hcmds hwrites hreads
  have hlow {t : State} (ht : t.rstIn = []) : t.rstAsserted = false := State.rstAsserted_of_low (by simp [ht])
  obtain ⟨hsend, hwrite⟩ := sendIsAcceptedAndWritesTheFrame
  have haccept := stepRunsTheDecodedCommand s _ cmds .send (hlow hrst) hs hcmd hcmds (by decide)
  rw [hsend] at haccept
  have hsending := (hwrite { s with rstIn := s.rstIn.tail, rsp := none, cmdIn := cmds, cmd := some .send, state := .sending }
    (hlow (by simp [hrst])) rfl hcap).2 (State.writeAnswer_cons hwrites)
  refine ⟨_, _, (runSteps_succ haccept 3).trans ((runSteps_succ hsending 2).trans
    (runSteps_from_awaitingAck (by simp [hrst]) rfl hack hreads)), rfl, responseIs_packResponse_none .ok _, ?_⟩
  cases classify a0 a1 <;> simp [hwrites, ackEvent]

/-- Settles O41: the close and the response are all of it. -/
theorem closeReleasesTheHandle : Obligations.CloseReleasesTheHandle := fun _ => rfl

/-! ### The wire -/

/-- A write ends what follows an earlier write in its `AWAITING_ACK`, so what comes after it changes nothing there. -/
theorem resetsInAck_append_write (l more : List TxEvent) (bytes : List Byte) (a : TxResult) :
    resetsInAck (l ++ .writeReq bytes a :: more) = resetsInAck l := by
  match l with
  | [] => rfl
  | [x] => cases x <;> rfl
  | x :: _ :: _ => cases x <;> rfl

/-- From a write on, the wire holds what it held before and what the write and the events after it put out. -/
theorem mayBeOnWire_append_write (trace more : List TxEvent) (bytes : List Byte) (a : TxResult) (wire : List Byte) :
    mayBeOnWire (trace ++ .writeReq bytes a :: more) wire ↔
      ∃ before after, mayBeOnWire trace before ∧ mayBeOnWire (.writeReq bytes a :: more) after ∧ wire = before ++ after := by
  induction trace generalizing wire with
  | nil => simp [-mayBeOnWire_cons]
  | cons x trace ih =>
    rw [List.cons_append, mayBeOnWire_cons]
    simp only [mayPutOut_congr (resetsInAck_append_write trace more bytes a), ih]
    constructor
    · rintro ⟨p, r, rfl, hp, b, q, hb, hq, rfl⟩
      exact ⟨p ++ b, q, ⟨p, b, rfl, hp, hb⟩, hq, by simp⟩
    · rintro ⟨-, q, ⟨p, b, rfl, hp, hb⟩, hq, rfl⟩
      exact ⟨p, b ++ q, by simp, hp, b, q, hb, hq, rfl⟩

theorem mayBeOnWire_append_ok (trace : List TxEvent) (bytes wire : List Byte) :
    mayBeOnWire (trace ++ [.writeReq bytes .ok]) wire ↔ ∃ before, mayBeOnWire trace before ∧ wire = before ++ bytes := by
  rw [mayBeOnWire_append rfl]
  simp [resetsInAck]

/-- A piece that is some first part of `bytes`, after what was on the wire. -/
theorem exists_take_iff {held : List Byte → Prop} {bytes wire : List Byte} :
    (∃ before piece, held before ∧ (∃ n, piece = bytes.take n) ∧ wire = before ++ piece) ↔
      ∃ before n, held before ∧ wire = before ++ bytes.take n := by
  constructor
  · rintro ⟨before, -, hbefore, ⟨n, rfl⟩, rfl⟩
    exact ⟨before, n, hbefore, rfl⟩
  · rintro ⟨before, n, hbefore, rfl⟩
    exact ⟨before, _, hbefore, ⟨n, rfl⟩, rfl⟩

/-- One event more that may put out any first part of `bytes`: a failed write, or one that a reset left without an answer. -/
theorem mayBeOnWire_append_take {e : TxEvent} {bytes : List Byte} (he : e.isResetInAck = false)
    (hput : ∀ piece, mayPutOut e [] piece ↔ ∃ n, piece = bytes.take n) (trace : List TxEvent) (wire : List Byte) :
    mayBeOnWire (trace ++ [e]) wire ↔ ∃ before n, mayBeOnWire trace before ∧ wire = before ++ bytes.take n := by
  simp only [mayBeOnWire_append he, hput, exists_take_iff]

theorem writesOf_cons_eq_nil {e : TxEvent} {more : List TxEvent} :
    writesOf (e :: more) = [] ↔ writesOf [e] = [] ∧ writesOf more = [] := by
  rw [← List.singleton_append, writesOf_append, List.append_eq_nil_iff]

/-- Without a write nothing is put out. -/
theorem mayBeOnWire_of_no_writes {trace : List TxEvent} (h : writesOf trace = []) (wire : List Byte) :
    mayBeOnWire trace wire ↔ wire = [] := by
  induction trace generalizing wire with
  | nil => rfl
  | cons e more ih =>
    obtain ⟨he, hmore⟩ := writesOf_cons_eq_nil.mp h
    simp [mayPutOut_of_no_write he, ih hmore]

/-- A frame whose acknowledgment a reset abandoned: some first part of it is on the wire (70 R232). -/
theorem mayBeOnWire_append_abandoned {more : List TxEvent} (hreset : resetsInAck more = true) (hmore : writesOf more = [])
    (trace : List TxEvent) (bytes wire : List Byte) :
    mayBeOnWire (trace ++ .writeReq bytes .ok :: more) wire ↔
      ∃ before n, mayBeOnWire trace before ∧ wire = before ++ bytes.take n := by
  have hframe : ∀ after, mayBeOnWire (.writeReq bytes .ok :: more) after ↔ ∃ n, after = bytes.take n := by
    simp [hreset, mayBeOnWire_of_no_writes hmore]
  simp only [mayBeOnWire_append_write, hframe, exists_take_iff]

/-- An event that writes nothing and is no reset without a write outstanding leaves the wire as it was. -/
theorem mayBeOnWire_append_silent {e : TxEvent} (hwrites : writesOf [e] = []) (he : e.isResetInAck = false)
    (trace : List TxEvent) (wire : List Byte) : mayBeOnWire (trace ++ [e]) wire ↔ mayBeOnWire trace wire := by
  simp [mayBeOnWire_append he, mayPutOut_of_no_write hwrites]

/-- Neither nothing nor one read follows the write, so its acknowledgment is over, or was abandoned already. -/
theorem resetsInAck_append_of_settled {l : List TxEvent} (hne : l ≠ []) (hread : ∀ ms a, l ≠ [.readReq ms a]) (e : TxEvent) :
    resetsInAck (l ++ [e]) = resetsInAck l := by
  match l, hne with
  | [x], _ =>
    cases x with
    | readReq ms a => exact absurd rfl (hread ms a)
    | _ => rfl
  | x :: _ :: _, _ => cases x <;> rfl

/-- The record stands in the `AWAITING_ACK` of its last write: nothing, or one read, follows it (43 R173). -/
def EndsInAck (trace : List TxEvent) : Prop :=
  ∃ more bytes, trace = more ++ [.writeReq bytes .ok] ∨ ∃ ms a, trace = more ++ [.writeReq bytes .ok, .readReq ms a]

theorem EndsInAck.cons {trace : List TxEvent} (h : EndsInAck trace) (x : TxEvent) : EndsInAck (x :: trace) := by
  obtain ⟨more, bytes, rfl | ⟨ms, a, rfl⟩⟩ := h
  · exact ⟨x :: more, bytes, .inl rfl⟩
  · exact ⟨x :: more, bytes, .inr ⟨ms, a, rfl⟩⟩

/-- A reset that abandons no acknowledgment changes nothing of what an earlier event put out. -/
theorem mayPutOut_append_of_not_endsInAck {x : TxEvent} {more : List TxEvent} (h : ¬ EndsInAck (x :: more)) (e : TxEvent)
    (piece : List Byte) : mayPutOut x (more ++ [e]) piece ↔ mayPutOut x more piece := by
  match x with
  | .writeReq bytes .ok =>
    have hne : more ≠ [] := by
      rintro rfl
      exact h ⟨[], bytes, .inl rfl⟩
    have hread : ∀ ms a, more ≠ [.readReq ms a] := by
      rintro ms a rfl
      exact h ⟨[], bytes, .inr ⟨ms, a, rfl⟩⟩
    exact mayPutOut_congr (resetsInAck_append_of_settled hne hread e) _ piece
  | .writeReq _ .error | .openReq _ _ _ | .readReq _ _ | .closeReq => exact Iff.rfl
  | .rst none | .rst (some (.txOpen _ _)) | .rst (some (.txWrite _)) | .rst (some (.txRead _)) => exact Iff.rfl

/-- One event more that writes nothing, where no acknowledgment is awaited: the wire stays as it was. -/
theorem mayBeOnWire_append_of_not_endsInAck {e : TxEvent} (hwrites : writesOf [e] = []) {trace : List TxEvent}
    (h : ¬ EndsInAck trace) (wire : List Byte) : mayBeOnWire (trace ++ [e]) wire ↔ mayBeOnWire trace wire := by
  induction trace generalizing wire with
  | nil => exact mayBeOnWire_of_no_writes hwrites wire
  | cons x more ih =>
    have hmore : ¬ EndsInAck more := fun hends => h (hends.cons x)
    simp only [List.cons_append, mayBeOnWire_cons, mayPutOut_append_of_not_endsInAck h, ih hmore]

/-- Where every write was answered `Ok` and no reset came, the wire holds exactly the written bytes (43 R161). -/
theorem mayBeOnWire_of_all_ok {trace : List TxEvent} (hok : ∀ bytes, .writeReq bytes .error ∉ trace)
    (hrst : ∀ r, .rst r ∉ trace) (wire : List Byte) : mayBeOnWire trace wire ↔ wire = (writesOf trace).flatten := by
  induction trace using List.reverseRecOn generalizing wire with
  | nil => rfl
  | append_singleton trace e ih =>
    have ih := ih (fun bytes hmem => hok bytes (List.mem_append_left _ hmem)) (fun r hmem => hrst r (List.mem_append_left _ hmem))
    match e with
    | .writeReq bytes .ok => simp [mayBeOnWire_append_ok, ih]
    | .writeReq bytes .error => exact absurd (by simp) (hok bytes)
    | .rst r => exact absurd (by simp) (hrst r)
    | .openReq _ _ _ | .readReq _ _ | .closeReq => rw [mayBeOnWire_append_silent rfl rfl, ih]; simp

/-- Settles O50: the record with only successful writes, then one event more at the end of any record. -/
theorem wireHoldsTheWrittenBytes : Obligations.WireHoldsTheWrittenBytes := by
  refine ⟨fun trace hok hrst => ?_, fun trace bytes wire => ⟨?_, ?_, ?_, ?_⟩, ?_⟩
  · have hwire := mayBeOnWire_of_all_ok hok hrst
    refine ⟨hwire, fun bytes wire => ?_⟩
    rw [mayBeOnWire_append_take rfl fun _ => Iff.rfl]
    simp [hwire]
  · exact mayBeOnWire_append_ok trace bytes wire
  · exact mayBeOnWire_append_take rfl (fun _ => Iff.rfl) trace wire
  · exact mayBeOnWire_append_take rfl (fun _ => Iff.rfl) trace wire
  · rintro r (rfl | ⟨ms, rfl⟩) <;>
      exact ⟨mayBeOnWire_append_abandoned rfl rfl trace bytes wire,
        fun _ _ => mayBeOnWire_append_abandoned rfl rfl trace bytes wire⟩
  · intro trace e wire hwrites hends
    cases he : e.isResetInAck with
    | false => exact mayBeOnWire_append_silent hwrites he trace wire
    | true =>
      obtain ⟨r, rfl⟩ : ∃ r, e = .rst r := by cases e <;> simp_all [TxEvent.isResetInAck]
      refine mayBeOnWire_append_of_not_endsInAck hwrites ?_ wire
      rintro ⟨more, bytes, hlast | ⟨ms, a, hlast⟩⟩
      · exact (hends r rfl more bytes).1 hlast
      · exact (hends r rfl more bytes).2 ms a hlast

end Sys2Proof.Machine

/-! PROOFS, family `60_exceptions.md`: what fault entry writes, what is left of the block in `FAILED` and in `CLOSED`, and which step
each record of the log comes from. -/

namespace Sys2Proof.Machine

/-- Settles O52: by whether a command is in progress. -/
theorem faultEntry : Obligations.FaultEntry := by
  refine fun s code => ⟨fun i hcmd => ?_, fun hcmd => ?_⟩
  · rw [State.raiseFault_of_command hcmd, FaultCode.orFirst_eq, cond_eq_ite]
  · rw [State.raiseFault_of_no_command hcmd, FaultCode.orFirst_eq, cond_eq_ite]

/-! ### FAILED and CLOSED -/

/-- In `FAILED` and in `CLOSED` only the command port is left to step (43 R162). -/
theorem step_of_failed_or_closed {s : State} (hr : s.rstAsserted = false) (hs : s.state = .failed ∨ s.state = .closed) :
    step s = commandStep s.tick := by
  obtain hs | hs := hs <;> simp [step, blockStep, hr, handshakeStep, hs]

theorem commandStep_of_nil {s : State} (hi : s.cmdIn = []) : commandStep s = .next s := by
  simp [commandStep, hi]

theorem commandStep_of_ready {s : State} {w : Word} {rest : List Word} (hi : s.cmdIn = w :: rest)
    (hready : s.cmdReady = true) : commandStep s = runCommandWord w { s with cmdIn := rest } := by
  simp [commandStep, hi, hready]

/-- The first check of an accepted word comes before its decode (30 R79). -/
theorem runCommandWord_of_failed_or_closed {s : State} (hs : s.state = .failed ∨ s.state = .closed) (w : Word) :
    runCommandWord w s = .next (s.respond .notReady .none none) := if_pos hs

/-- Settles O8: no command is in progress there, so a presented word is accepted, and refused before its decode. -/
theorem failedAndClosedAnswerNotReady : Obligations.FailedAndClosedAnswerNotReady := by
  intro s hinv hr hs
  refine ⟨fun hi => ?_, fun w rest hi => ?_⟩
  · rw [step_of_failed_or_closed hr hs, commandStep_of_nil (s := s.tick) hi]
    exact ⟨_, rfl, rfl⟩
  · have hempty : HiddenEmpty s := hinv.empty (by obtain hs | hs := hs <;> simp [hs])
    have hready : s.tick.cmdReady = true := s.tick.cmdReady_iff.mpr ⟨hempty.1, .inr hs⟩
    rw [step_of_failed_or_closed hr hs, commandStep_of_ready (s := s.tick) hi hready,
      runCommandWord_of_failed_or_closed (by exact hs), State.respond_of_hiddenEmpty (s := { s.tick with cmdIn := rest }) hempty]
    exact ⟨_, rfl, rfl⟩

/-! ### The records of the log -/

/-- The table of record kinds (60 R210): in which state the step that logs the record starts. -/
def LogEvent.ComesFrom (e : LogEvent) (h : HState) : Prop :=
  (e.code = 0x01#8 ∧ h = .validating) ∨ (e.code = 0x02#8 ∧ h = .opening) ∨ (e.code = 0x03#8 ∧ h = .resetting) ∨
  ((e.code = 0x04#8 ∨ e.code = 0x05#8) ∧ h = .reconnecting) ∨ (e.code = 0x06#8 ∧ (h = .connected ∨ h = .sending)) ∨
  (e.code = 0x07#8 ∧ h = .sending) ∨ ((e.code = 0x08#8 ∨ e.code = 0x09#8 ∨ e.code = 0x0A#8) ∧ h = .awaitingAck)

/-- What a step may do to the log: keep it, or put one record of the table at its end. -/
def LogsAtMostOne (s t : State) : Prop :=
  t.logOut = s.logOut ∨ ∃ e, t.logOut = s.logOut ++ [e] ∧ e.ComesFrom s.state

/-- Fault entry logs nothing beyond the record that stands before it. -/
theorem State.log_raiseFault_logsAtMostOne {s s' : State} {e : LogEvent} (hlog : s'.logOut = s.logOut)
    (he : e.ComesFrom s.state) (c : FaultCode) : LogsAtMostOne s ((s'.log e).raiseFault c) :=
  .inr ⟨e, by simp [State.raiseFault_log, hlog], he⟩

theorem State.overflowFault_logsAtMostOne {s s' : State} (hlog : s'.logOut = s.logOut)
    (hs : s.state = .connected ∨ s.state = .sending) : LogsAtMostOne s s'.overflowFault :=
  State.log_raiseFault_logsAtMostOne hlog (by simp [LogEvent.ComesFrom, LogEvent.code, hs]) _

/-- Every record of an acknowledgment class comes from the step that classifies (43 R173). -/
theorem ackEvent_comesFrom {c : AckClass} {raw0 raw1 : BitVec 10} {e : LogEvent} (he : ackEvent c raw0 raw1 = some e) :
    e.ComesFrom .awaitingAck := by
  cases c with
  | none | ok => simp [ackEvent] at he
  | timeout | readError | mismatch =>
    cases he
    simp [LogEvent.ComesFrom, LogEvent.code]

theorem secondAckStep_logsAtMostOne {s : State} (hs : s.state = .awaitingAck) (a0 : ReadAnswer) :
    LogsAtMostOne s (secondAckStep a0 s) := by
  rw [secondAckStep_eq]
  cases he : ackEvent (classify a0 s.readAnswer) s.ackRaw0 (kindAndByte s.readAnswer) with
  | none => exact .inl (List.append_nil _)
  | some e => exact .inr ⟨e, rfl, hs ▸ ackEvent_comesFrom he⟩

theorem HandshakeCase.logsAtMostOne {s t : State} (h : HandshakeCase s t) : LogsAtMostOne s t := by
  cases h with
  | checksumMismatch hs | openFailed hs | resetWriteFailed hs | rebootFailed hs | reconnectExhausted hs =>
    exact State.log_raiseFault_logsAtMostOne rfl (by simp [LogEvent.ComesFrom, LogEvent.code, hs]) _
  | sendOverflow hs => exact State.overflowFault_logsAtMostOne rfl (.inr hs)
  | sendFailed hs => exact .inr ⟨.writeError, rfl, by simp [LogEvent.ComesFrom, LogEvent.code, hs]⟩
  | secondRead hs a0 => exact secondAckStep_logsAtMostOne hs a0
  | _ => exact .inl rfl

/-- An accepted word logs only where a SERIALIZE overflows, and `CONNECTED` is the one state that runs it. -/
theorem CommandCase.logsAtMostOne {w : Word} {s t : State} (h : CommandCase w s t)
    (hs : s.state = .connected ∨ s.state = .failed ∨ s.state = .closed) : LogsAtMostOne s t := by
  cases h with
  | serializeOverflow hrun => exact State.overflowFault_logsAtMostOne rfl (.inl (connected_of_running hs hrun))
  | _ => exact .inl rfl

/-- Settles O54: by the branches of a step with `rst` low. -/
theorem logRecordsComeFromTheirSteps : Obligations.LogRecordsComeFromTheirSteps := by
  intro s t hr ht
  cases step_of_low hr ht with
  | handshake _ hc => exact hc.logsAtMostOne
  | idle => exact .inl rfl
  | command _ _ _ hs _ _ hc => exact hc.logsAtMostOne hs

end Sys2Proof.Machine

/-! PROOFS, family `70_reset_and_hazards.md`: what a reset leaves (the invariants, the reset values), what its step
puts on record at the Transport port, what a step does where something is pending and where the run is over, and the two runs of
construction from reset. -/

namespace Sys2Proof.Machine

/-! ### After a reset -/

/-- Settles O48: there is no handle, no fault, no hidden state, no report and no request, and `DISCONNECTED` wants none. -/
theorem resetMeetsTheInvariants : Obligations.ResetMeetsTheInvariants := by
  intro c
  obtain ⟨hreport, horder⟩ := resetWith_validation c
  exact ⟨rfl, by simp [FaultMatchesState, State.resetWith],
    hiddenMatches_of_empty ⟨rfl, rfl, rfl⟩ (by simp [State.resetWith]), hreport, horder, rfl⟩

/-- The status port after a reset: the two registers that are not 0, then the others of the map, then the sums, then the addresses
that are not mapped (70 R231). -/
theorem statusRead_resetWith (c : Config) (a : BitVec 8) :
    statusRead (State.resetWith c) a = if a = 0x02#8 then 0xF#32 else if a = 0x07#8 then 18#32 else 0#32 := by
  obtain ⟨n, hn, rfl⟩ : ∃ n < 256, a = BitVec.ofNat 8 n := ⟨a.toNat, a.isLt, by simp⟩
  by_cases hreg : n < 10
  · interval_cases n <;> rfl
  · have hne : ∀ m < 10, BitVec.ofNat 8 n ≠ BitVec.ofNat 8 m := fun m hm h => by
      have hnat := congrArg BitVec.toNat h
      simp only [BitVec.toNat_ofNat] at hnat
      omega
    rw [if_neg (hne 2 (by omega)), if_neg (hne 7 (by omega))]
    by_cases hsum : 0x10 ≤ n ∧ n < 0x20
    · obtain ⟨c', rfl⟩ : ∃ c' : Fin 16, n = 0x10 + c'.val := ⟨⟨n - 16, by omega⟩, by simp; omega⟩
      rw [statusRead_chkSum]
      simp [State.resetWith]
    · refine statusRead_unmapped _ ?_
      rw [BitVec.toNat_ofNat]
      omega

/-- Settles O58: the status port by its addresses, the rest by the reset state. -/
theorem resetValues : Obligations.ResetValues :=
  fun c => ⟨fun i => Vector.getElem_replicate i.isLt, statusRead_resetWith c, rfl, rfl, rfl, rfl, rfl⟩

/-! ### The step of a reset -/

theorem step_of_rstAsserted {s : State} (hr : s.rstAsserted = true) : step s = .next (applyReset s.cutRequest s.tick) :=
  if_pos hr

/-- A reset that comes before the request of its step cuts nothing (log 23). -/
theorem State.cutRequest_of_asserted {s : State} (h : s.rstIn.head? = some .asserted) : s.cutRequest = none := by
  simp [State.cutRequest, List.headD_eq_head?_getD, h]

/-- A reset that comes during the request of its step cuts that one. -/
theorem State.cutRequest_of_duringRequest {s : State} (h : s.rstIn.head? = some .duringRequest) :
    s.cutRequest = s.requestOfStep := by
  simp [State.cutRequest, List.headD_eq_head?_getD, h]

/-- Settles O57: the request that the reset cuts stands on record with it, and the close of an open handle after it. -/
theorem resetFromAnyState : Obligations.ResetFromAnyState := by
  intro s hr
  refine ⟨s.cutRequest, State.cutRequest_of_asserted, fun h => ?_, ?_⟩
  · rw [State.cutRequest_of_duringRequest h, State.requestOfStep]
    cases hs : s.state with
    | sending =>
      by_cases hcap : 290 ≤ s.cfg.frameCapacity
      · simp [s.overflows_false_iff.mpr hcap, hcap]
      · simp [s.overflows_iff.mpr (Nat.not_le.mp hcap), hcap]
    | awaitingAck => cases h0 : s.ack0 <;> simp [ackTimeout0, ackTimeout1]
    | _ => rfl
  · have htrace := applyReset_txTrace s.cutRequest s.tick
    rw [cond_eq_ite] at htrace
    rw [step_of_rstAsserted hr]
    exact congrArg Host.Outcome.next (congrArg (fun l => { applyReset s.cutRequest s.tick with txTrace := l }) htrace)

/-! ### What is pending and what is over -/

/-- A handshake step goes to another state, but for a failed attempt to reopen and the two reads, which ask the Transport. -/
theorem HandshakeCase.goes_on {s t : State} (h : HandshakeCase s t) :
    t.state ≠ s.state ∨ s.txTrace.length < t.txTrace.length := by
  cases h with
  | start hs => exact .inl (by cases s.cfg.initOrder <;> simp [firstState, hs])
  | validated hs => exact .inl (by cases s.cfg.initOrder <;> simp [validatedState, hs])
  | checksumMismatch hs | openFailed hs | resetWriteFailed hs | rebootFailed hs | reconnectExhausted hs | sendOverflow hs =>
    exact .inl (by simp [State.overflowFault_frame, hs])
  | opened hs | reconnected hs => exact .inl (by cases h : s.cfg.initOrder <;> simp [linkUpState, hs, h])
  | openedForReset hs | resetWritten hs | sendFailed hs | sent hs => exact .inl (by simp [hs])
  | stillReconnecting | firstRead => exact .inr (by simp [firstAckStep])
  | secondRead => exact .inr (by simp [secondAckStep, State.logAck_eq])

/-- The run can be over only where the block waits at the command port (70 R242). -/
theorem State.commandState_of_isOver {s : State} (h : s.isOver = true) :
    s.state = .connected ∨ s.state = .failed ∨ s.state = .closed := by
  cases hs : s.state <;> simp_all [State.isOver]

/-- In `FAILED` and in `CLOSED` the run is over. -/
theorem State.isOver_of_failed_or_closed {s : State} (hs : s.state = .failed ∨ s.state = .closed) : s.isOver = true := by
  obtain hs | hs := hs <;> simp [State.isOver, hs]

/-- Settles O51: what is pending outside `CONNECTED` is a handshake step; with nothing presented, a run that is over waits. -/
theorem pendingStatesGoOnAndFinishedOnesStay : Obligations.PendingStatesGoOnAndFinishedOnesStay := by
  intro s t hr ht
  have hover : (s.state = .connected ∨ s.state = .failed ∨ s.state = .closed) → s.state ≠ .connected → s.isOver = true :=
    fun hs hne => State.isOver_of_failed_or_closed (hs.resolve_left hne)
  cases step_of_low hr ht with
  | handshake _ hc => exact ⟨fun _ _ => hc.goes_on, fun h _ => absurd (State.commandState_of_isOver h) hc.not_commandState⟩
  | idle hs => exact ⟨fun hne h => absurd (hover hs hne) (Bool.eq_false_iff.mp h), fun _ _ => rfl⟩
  | command _ _ _ hs hi =>
    exact ⟨fun hne h => absurd (hover hs hne) (Bool.eq_false_iff.mp h), fun _ hnil => by simp [hnil] at hi⟩

/-! ### Construction from reset

No reset comes and no response stands in these runs, so the ports have nothing to sample. Link bring-up begins in `OPENING` and ends
at `LINKUP`; construction is its start, the validation and link bring-up, in one order or the other. -/

/-- No sample of `rst` is left, and no response is on the port. -/
def State.IsQuiet (s : State) : Prop := s.rstIn = [] ∧ s.rsp = none

theorem State.IsQuiet.tick_eq {s : State} (h : s.IsQuiet) : s.tick = s := by
  obtain ⟨hrst, hrsp⟩ := h
  cases s
  simp_all [State.tick]

theorem State.IsQuiet.rstAsserted {s : State} (h : s.IsQuiet) : s.rstAsserted = false :=
  State.rstAsserted_of_low (by simp [h.1])

/-- The counter of attempts saturates: `n` attempts more, as a number. -/
theorem iterate_saturatingSucc_toNat (n : Nat) (b : BitVec 32) :
    (saturatingSucc^[n] b).toNat = min (b.toNat + n) 0xFFFFFFFF := by
  induction n generalizing b with
  | zero =>
    have hlt := b.isLt
    simp only [Function.iterate_zero_apply]
    omega
  | succ n ih =>
    rw [Function.iterate_succ_apply, ih, saturatingSucc_toNat]
    omega

/-- What link bring-up does to a block in `n` steps: these attempts counted, these requests made, this rest of the answers. -/
def State.broughtUp (s : State) (n : Nat) (attempts : BitVec 32) (requests : List TxEvent) (opens writes : List TxResult) : State :=
  { s with
    state := linkUpState s.cfg.initOrder, handleOpen := true, reconnectAttempts := attempts
    txTrace := s.txTrace ++ requests, openIn := opens, writeIn := writes, oracleIx := s.oracleIx + n }

/-- Without a reset of the device, link bring-up is the OPENING step (43 R164). -/
theorem linkBringUp_without_reset {s : State} {opens : List TxResult} (hq : s.IsQuiet) (hs : s.state = .opening)
    (hreset : s.cfg.resetOnStart = false) (hopens : s.openIn = .ok :: opens) :
    runSteps 1 s =
      .next (s.broughtUp 1 s.reconnectAttempts [.openReq s.cfg.port s.cfg.baud .ok] opens s.writeIn) := by
  have ha : s.openAnswer = .ok := State.openAnswer_cons hopens
  have hstep := step_of_opening hq.rstAsserted hs
  rw [hq.tick_eq, openingStep_of_ok ha] at hstep
  rw [runSteps_succ hstep, runSteps_zero]
  simp [State.txOpen, State.goto, State.broughtUp, ha, hreset, hopens]

/-- The block after the reset of the device, where these answers are left: the open, the reset command and the close are made, and no
attempt to reopen is counted yet (43 R164, R166). -/
def State.deviceReset (s : State) (opens writes : List TxResult) : State :=
  { s with
    state := .reconnecting, handleOpen := false, reconnectAttempts := 0#32
    txTrace := s.txTrace ++ [.openReq s.cfg.port s.cfg.baud .ok, .writeReq resetCommand .ok, .closeReq]
    openIn := opens, writeIn := writes, oracleIx := s.oracleIx + 2 }

/-- The reset of the device is the OPENING step and the RESETTING step. -/
theorem runSteps_deviceReset {s : State} {opens writes : List TxResult} (hq : s.IsQuiet) (hs : s.state = .opening)
    (hreset : s.cfg.resetOnStart = true) (hopens : s.openIn = .ok :: opens) (hwrites : s.writeIn = .ok :: writes) (n : Nat) :
    runSteps (n + 2) s = runSteps n (s.deviceReset opens writes) := by
  have ha : s.openAnswer = .ok := State.openAnswer_cons hopens
  have hw : (s.txOpen.goto .resetting).writeAnswer = .ok := State.writeAnswer_cons hwrites
  have hq' : (s.txOpen.goto .resetting).IsQuiet := hq
  have hopen := step_of_opening hq.rstAsserted hs
  rw [hq.tick_eq, openingStep_of_ok ha, if_pos hreset] at hopen
  have hwrite := step_of_resetting hq'.rstAsserted rfl
  rw [hq'.tick_eq, resettingStep_of_ok hw] at hwrite
  rw [runSteps_succ hopen, runSteps_succ hwrite]
  simp [State.deviceReset, State.txOpen, State.txWrite, State.txClose, State.goto, State.writeAnswer, ha, hopens, hwrites]

/-- `k` attempts to reopen that fail below the bound, each counted, and then one that succeeds: where it is not the first, it is no
reboot failure, and the link is up (43 R167). -/
theorem linkUp_after_failed_reopens {s : State} {opens : List TxResult} {k : Nat} (hq : s.IsQuiet)
    (hs : s.state = .reconnecting) (hlater : 1 ≤ s.reconnectAttempts.toNat + k)
    (hbound : ∀ m, s.cfg.maxReconnect = some m → s.reconnectAttempts.toNat + k < m.val)
    (hopens : s.openIn = List.replicate k .error ++ .ok :: opens) :
    runSteps (k + 1) s = .next (s.broughtUp (k + 1) (saturatingSucc^[k + 1] s.reconnectAttempts)
      (List.replicate k (.openReq s.cfg.port s.cfg.baud .error) ++ [.openReq s.cfg.port s.cfg.baud .ok]) opens s.writeIn) := by
  induction k generalizing s with
  | zero =>
    have ha : s.openAnswer = .ok := State.openAnswer_cons hopens
    have hne : saturatingSucc s.reconnectAttempts ≠ 1#32 := fun h => by
      have hcount := saturatingSucc_toNat s.reconnectAttempts
      rw [h, BitVec.toNat_ofNat] at hcount
      omega
    have hstep := step_of_reconnecting hq.rstAsserted hs
    rw [hq.tick_eq, reconnectingStep_of_later ha hne] at hstep
    rw [runSteps_succ hstep, runSteps_zero]
    simp [State.reopen, State.txOpen, State.linkUp, State.goto, State.broughtUp, ha, hopens]
  | succ k ih =>
    have ha : s.openAnswer = .error := State.openAnswer_cons (by rw [hopens, List.replicate_succ, List.cons_append])
    have hcount := saturatingSucc_toNat s.reconnectAttempts
    have hnot : boundReached s.cfg.maxReconnect (saturatingSucc s.reconnectAttempts) = false :=
      (boundReached_false_iff _ _).mpr fun m hm => by
        have hlt := hbound m hm
        omega
    have hstep := step_of_reconnecting hq.rstAsserted hs
    rw [hq.tick_eq, reconnectingStep_of_error ha hnot] at hstep
    have hcount' : (s.reopen.goto .reconnecting).reconnectAttempts.toNat = min (s.reconnectAttempts.toNat + 1) 0xFFFFFFFF :=
      hcount
    have hrest := ih (s := s.reopen.goto .reconnecting) hq rfl (by omega)
      (fun m hm => by have hlt := hbound m hm; omega) (by simp [hopens, List.replicate_succ])
    rw [runSteps_succ hstep, hrest]
    simp [State.reopen, State.txOpen, State.goto, State.broughtUp, ha, List.replicate_succ, Nat.add_comm, Nat.add_left_comm]

/-- The requests of link bring-up with a reset of the device and `k` failed attempts to reopen. -/
def requestsWithReset (c : Config) (k : Nat) : List TxEvent :=
  [.openReq c.port c.baud .ok, .writeReq resetCommand .ok, .closeReq] ++ List.replicate k (.openReq c.port c.baud .error) ++
    [.openReq c.port c.baud .ok]

/-- With a reset of the device, link bring-up is that reset, the failed attempts to reopen, at least one, and one that succeeds. -/
theorem linkBringUp_with_reset {s : State} {opens writes : List TxResult} {k : Nat} (hq : s.IsQuiet) (hs : s.state = .opening)
    (hreset : s.cfg.resetOnStart = true) (hk : 1 ≤ k) (hbound : ∀ m, s.cfg.maxReconnect = some m → k < m.val)
    (hopens : s.openIn = .ok :: (List.replicate k .error ++ .ok :: opens)) (hwrites : s.writeIn = .ok :: writes) :
    runSteps (k + 3) s =
      .next (s.broughtUp (k + 3) (saturatingSucc^[k + 1] 0#32) (requestsWithReset s.cfg k) opens writes) := by
  rw [runSteps_deviceReset hq hs hreset hopens hwrites (k + 1),
    linkUp_after_failed_reopens (s := s.deviceReset _ _) hq rfl (by simpa [State.deviceReset] using hk)
      (by simpa [State.deviceReset] using hbound) rfl]
  simp [State.broughtUp, State.deviceReset, requestsWithReset]
  omega

/-- The VALIDATING step with a table that passes (40 R105). -/
theorem step_of_validating_passing {s : State} (hq : s.IsQuiet) (hs : s.state = .validating)
    (hpass : tablePasses s.cfg.table) :
    step s = .next ((s.report (validatorSums s.cfg.table) .passed).goto (validatedState s.cfg.initOrder)) := by
  rw [step_of_validating hq.rstAsserted hs, hq.tick_eq, validatingStep_of_ok (validate_of_passes hpass)]

/-- Construction, in either order, with a table that passes and a link that comes up in `n` steps: `n + 2` steps to `CONNECTED`. -/
theorem runSteps_construction {s : State} {n : Nat} {attempts : BitVec 32} {requests : List TxEvent}
    {opens writes : List TxResult} (hq : s.IsQuiet) (hs : s.state = .disconnected) (hpass : tablePasses s.cfg.table)
    (hlink : ∀ u : State, u.IsQuiet → u.state = .opening → u.cfg = s.cfg → u.reconnectAttempts = s.reconnectAttempts →
      u.openIn = s.openIn → u.writeIn = s.writeIn → runSteps n u = .next (u.broughtUp n attempts requests opens writes)) :
    runSteps (n + 2) s = .next
      (((s.broughtUp n attempts requests opens writes).report (validatorSums s.cfg.table) .passed).goto .connected) := by
  have hstart := step_of_disconnected hq.rstAsserted hs
  rw [hq.tick_eq, startConstruction] at hstart
  rw [runSteps_succ hstart (n + 1)]
  cases ho : s.cfg.initOrder with
  | validateFirst =>
    have hvalid := step_of_validating_passing (s := s.goto .validating) hq rfl hpass
    rw [State.goto_cfg, ho] at hvalid
    have hup := hlink (((s.goto .validating).report (validatorSums s.cfg.table) .passed).goto .opening) hq rfl rfl rfl rfl rfl
    rw [firstState, runSteps_succ hvalid n, validatedState, hup]
    simp [State.broughtUp, State.report, State.goto, linkUpState, ho]
  | openFirst =>
    have hup := hlink (s.goto .opening) hq rfl rfl rfl rfl rfl
    have hvalid := step_of_validating_passing (s := (s.goto .opening).broughtUp n attempts requests opens writes) hq
      (by simp [State.broughtUp, linkUpState, ho]) hpass
    rw [firstState, runSteps_add hup 1, runSteps_succ hvalid, runSteps_zero]
    simp [State.broughtUp, State.report, State.goto, validatedState, ho]

/-- Settles O33: link bring-up is one step. -/
theorem constructionWithoutResetConnects : Obligations.ConstructionWithoutResetConnects := by
  intro c opens cmds hpass hreset
  refine ⟨_, runSteps_construction (n := 1) (attempts := 0#32) (requests := [.openReq c.port c.baud .ok]) (opens := opens)
    (writes := []) ⟨rfl, rfl⟩ rfl hpass fun u hq hs hcfg hattempts hopens hwrites => ?_,
    rfl, rfl, rfl, rfl, rfl, rfl, rfl, rfl, rfl⟩
  have hup := linkBringUp_without_reset hq hs (by rwa [hcfg]) hopens
  rwa [hcfg, hattempts, hwrites] at hup

/-- Settles O34: link bring-up is `k + 3` steps, and the attempt that succeeds is counted too. -/
theorem constructionWithResetConnects : Obligations.ConstructionWithResetConnects := by
  intro c k opens writes cmds hpass hreset hk hbound
  refine ⟨_, runSteps_construction (n := k + 3) (attempts := saturatingSucc^[k + 1] 0#32) (requests := requestsWithReset c k)
    (opens := opens) (writes := writes) ⟨rfl, rfl⟩ rfl hpass fun u hq hs hcfg _ hopens hwrites => ?_,
    rfl, rfl, rfl, rfl, rfl, rfl, rfl, (iterate_saturatingSucc_toNat _ _).trans (by simp), rfl⟩
  have hup := linkBringUp_with_reset hq hs (by rwa [hcfg]) hk (by rwa [hcfg]) hopens hwrites
  rwa [hcfg] at hup

end Sys2Proof.Machine
